-- ==== Sys2Proof/Word.lean ====
section
/-! DEFINITION. The widths of the block: bytes, 16-bit halves, 32-bit bus words, 9-bit lengths,
13-bit bus offsets and 64-bit binary64 encodings (spec 00_scope.md R6, R7). -/

namespace Sys2Proof

/-- A byte of a frame or of a buffer (R7: a byte is 8 bits). -/
abbrev Byte := BitVec 8

/-- A 16-bit register field: CRC, ACCEL_DIV, REQ_START, REQ_COUNT, a raw word. -/
abbrev Half := BitVec 16

/-- A 32-bit bus word, and a command word (20_memory.md R45, 30_encoding.md R64). -/
abbrev Word := BitVec 32

/-- A frame length register, TX_LEN or RX_LEN (10_state.md R30, R31). -/
abbrev FrameLen := BitVec 9

/-- A byte offset of the block register space (10_state.md R18: 0x0000 to 0x1FFF). -/
abbrev Offset := BitVec 13

/-- The 64-bit encoding of an IEEE-754 binary64 value (10_state.md R35). -/
abbrev F64 := BitVec 64

end Sys2Proof
end

