-- ==== Sys2Proof/Syntax.lean ====
section
/-! DEFINITION. The twelve commands of the block, one constructor per row of spec/opcode_table.json
(30_encoding.md R66). An operand is the byte OPD of the command word; WellFormed says which are legal. -/

namespace Sys2Proof

/-- A command (30_encoding.md R66). The operand byte of a Format I command is kept as the word has it
(R67: unsigned, never extended, scaled or shifted). -/
inductive Instr where
  /-- NOP, OPC 0x00 (43_control.md R108). -/
  | nop
  /-- CRC_INIT, OPC 0x01 (40_crc.md R80). -/
  | crcInit
  /-- CRC_BYTE b, OPC 0x02 (40_crc.md R81). -/
  | crcByte (b : Byte)
  /-- CRC_RXBUF, OPC 0x03 (40_crc.md R82). -/
  | crcRxbuf
  /-- BUILD_REQ, OPC 0x10 (41_frame.md R85). -/
  | buildReq
  /-- LOAD_VENDOR k, OPC 0x11 (41_frame.md R88). -/
  | loadVendor (k : Byte)
  /-- PARSE, OPC 0x20 (41_frame.md R90). -/
  | parse
  /-- DECODE_WORDS n, OPC 0x30 (42_unpack.md R96). -/
  | decodeWords (n : Byte)
  /-- SCALE_ACCEL b, OPC 0x31 (42_unpack.md R101). -/
  | scaleAccel (b : Byte)
  /-- SCALE_GYRO b, OPC 0x32 (42_unpack.md R102). -/
  | scaleGyro (b : Byte)
  /-- SCALE_ANGLE b, OPC 0x33 (42_unpack.md R103). -/
  | scaleAngle (b : Byte)
  /-- SOFT_RESET, OPC 0xF0 (43_control.md R109). -/
  | softReset
deriving DecidableEq, Repr

end Sys2Proof
end

