-- ==== Sys2Proof/WellFormed.lean ====
section
/-! DEFINITION. Which operand bytes are legal (30_encoding.md R66, R67). A command with another operand
byte is no command of the block: its word is illegal (R68). -/

namespace Sys2Proof

/-- The legal table indexes of LOAD_VENDOR: 0x00 to 0x03 (R67). -/
abbrev legalVendorIndex (k : Byte) : Prop := k.toNat ≤ 3

/-- The legal word counts of DECODE_WORDS: 3 and 6 (R67). -/
abbrev legalWordCount (n : Byte) : Prop := n = 3 ∨ n = 6

/-- The legal base indexes of the SCALE commands: 0 and 3 (R67). -/
abbrev legalBase (b : Byte) : Prop := b = 0 ∨ b = 3

/-- A well-formed command: its operand byte is in its legal set (30_encoding.md R66). -/
def Instr.WellFormed : Instr → Bool
  | .nop => true
  | .crcInit => true
  | .crcByte _ => true
  | .crcRxbuf => true
  | .buildReq => true
  | .loadVendor k => decide (legalVendorIndex k)
  | .parse => true
  | .decodeWords n => decide (legalWordCount n)
  | .scaleAccel b => decide (legalBase b)
  | .scaleGyro b => decide (legalBase b)
  | .scaleAngle b => decide (legalBase b)
  | .softReset => true

end Sys2Proof
end

