-- ==== Sys2Proof/Decode.lean ====
section
/-! DEFINITION. The command decoder (30_encoding.md R70), total on every 32-bit word, the encoder written
from the same encoding table (R64 to R66), and the host's entry to the decoder. -/

namespace Sys2Proof

/-- Why a word is illegal: the four cases of 30_encoding.md R68. DESIGN CHOICE (log 15, safe): R70 answers
one `Illegal`; the reason is kept as a name and no meaning reads it. -/
inductive IllegalWord where
  /-- RSV is not 0. -/
  | reservedBits
  /-- OPC is not in R66. -/
  | reservedOpcode
  /-- A Format N word whose OPD is not 0. -/
  | operandPresent
  /-- A Format I word whose OPD is outside its legal set. -/
  | operandIllegal
deriving DecidableEq, Repr

/-- What the decoder answers (R70: Command or Illegal). -/
inductive Decoded where
  | command (i : Instr)
  | illegal (why : IllegalWord)
deriving DecidableEq, Repr

/-- OPC, bits 7:0 (R64). -/
def opcField (v : Word) : Byte := v.extractLsb' 0 8

/-- OPD, bits 15:8 (R64). -/
def opdField (v : Word) : Byte := v.extractLsb' 8 8

/-- RSV, bits 31:16 (R64). -/
def rsvField (v : Word) : Half := v.extractLsb' 16 16

/-- A Format N word decodes only with OPD = 0 (R65, R68). -/
def formatN (i : Instr) (opd : Byte) : Decoded :=
  if opd = 0 then .command i else .illegal .operandPresent

/-- A Format I word decodes only with a legal operand (R65, R68). -/
def formatI (i : Instr) : Decoded :=
  if i.WellFormed then .command i else .illegal .operandIllegal

/-- The case table of R70, on OPC and OPD. -/
def decodeFields (opc opd : Byte) : Decoded :=
  match opc with
  | 0x00#8 => formatN .nop opd
  | 0x01#8 => formatN .crcInit opd
  | 0x02#8 => formatI (.crcByte opd)
  | 0x03#8 => formatN .crcRxbuf opd
  | 0x10#8 => formatN .buildReq opd
  | 0x11#8 => formatI (.loadVendor opd)
  | 0x20#8 => formatN .parse opd
  | 0x30#8 => formatI (.decodeWords opd)
  | 0x31#8 => formatI (.scaleAccel opd)
  | 0x32#8 => formatI (.scaleGyro opd)
  | 0x33#8 => formatI (.scaleAngle opd)
  | 0xF0#8 => formatN .softReset opd
  | _ => .illegal .reservedOpcode

/-- The decoder (30_encoding.md R70). -/
def decode (v : Word) : Decoded :=
  if rsvField v = 0 then decodeFields (opcField v) (opdField v) else .illegal .reservedBits

/-- The opcode of a command (R66). -/
def opcode : Instr → Byte
  | .nop => 0x00
  | .crcInit => 0x01
  | .crcByte _ => 0x02
  | .crcRxbuf => 0x03
  | .buildReq => 0x10
  | .loadVendor _ => 0x11
  | .parse => 0x20
  | .decodeWords _ => 0x30
  | .scaleAccel _ => 0x31
  | .scaleGyro _ => 0x32
  | .scaleAngle _ => 0x33
  | .softReset => 0xF0

/-- The operand byte of a command (R67); Format N commands have 0. -/
def operand : Instr → Byte
  | .nop => 0
  | .crcInit => 0
  | .crcByte b => b
  | .crcRxbuf => 0
  | .buildReq => 0
  | .loadVendor k => k
  | .parse => 0
  | .decodeWords n => n
  | .scaleAccel b => b
  | .scaleGyro b => b
  | .scaleAngle b => b
  | .softReset => 0

/-- A command word from its two bytes: RSV = 0, OPD in 15:8, OPC in 7:0 (R64, R78). -/
def commandWord (opd opc : Byte) : Word := (opd.setWidth 32 <<< 8) ||| opc.setWidth 32

/-- The word of a command (30_encoding.md R64 to R66). -/
def encode (i : Instr) : Word := commandWord (operand i) (opcode i)

/-- The command of an answer of the decoder, if there is one. -/
def Decoded.toOption : Decoded → Option Instr
  | .command i => some i
  | .illegal _ => none

/-- The word that the low `nbits` bits of `w` make; the bits above are 0. -/
def tableWord (nbits w : Nat) : Word := BitVec.ofNat 32 (w % 2 ^ nbits)

/-- The command the decoder reads from a row's bits, numbered as spec/opcode_table.json numbers them: every
row is one 32-bit word, bit 0 the least significant (R64). -/
def decodeTableWord (nbits w : Nat) : Option Instr := (decode (tableWord nbits w)).toOption

end Sys2Proof
end

