-- ==== Sys2Proof/Config.lean ====
section
/-! DEFINITION. What the spec leaves open: the OPEN bytes of the vendor command table and the contents
of the two buffers at power-on. Each is an opaque constant, so nothing can be proved about its value. -/

namespace Sys2Proof.Config

/-- Bytes 2 and 3 of vendor command `k` (10_state.md R38, 93_implementation_defined.md I1: the OPEN
parameter VENDOR_CMD; bytes 0 and 1 are fixed and stand in Machine/Operands.lean). DESIGN CHOICE of the
form, log 7: a free value, safe. -/
opaque vendorTail : Fin 4 → Fin 2 → Byte

/-- The byte TXBUF[i] holds at power-on (10_state.md R36, R43: any value, independently). DESIGN CHOICE
of the form, log 6: a free value, safe. -/
opaque powerOnTx : Nat → Byte

/-- The byte RXBUF[i] holds at power-on (10_state.md R37, R43: any value, independently). DESIGN CHOICE
of the form, log 6: a free value, safe. -/
opaque powerOnRx : Nat → Byte

end Sys2Proof.Config
end

