-- ==== Sys2Proof/Machine/State.lean ====
section
/-! DEFINITION. The state of the block as plain data (10_state.md R16, R19, R41), the host's accesses and
the bus's responses, the reasons a step can stop, and the state after power-on reset (R42). -/

namespace Sys2Proof.Machine

/-- The result codes of STATUS.CODE (60_exceptions.md R115). 0xA to 0xF are never produced (R115,
93_implementation_defined.md I6), so they have no constructor. DEDUCED, log 10. -/
inductive ResultCode where
  | ok | tooShort | checksumMismatch | bytecountMismatch | frameTooLong
  | insufficientPayload | noFrame | wordsInvalid | scaleUnset | illegalCommand
deriving DecidableEq, Repr

/-- CONFIG (10_state.md R26). -/
structure AccelConfig where
  /-- ACCEL_DIV, bits 15:0; 0 means not configured. -/
  div : Half
  /-- ACCEL_HALVE, bit 16. -/
  halve : Bool
deriving DecidableEq, Repr

/-- REQ0 and REQ1 (10_state.md R28, R29). -/
structure RequestRegs where
  /-- REQ_ADDR -/
  addr : Byte
  /-- REQ_FUNC -/
  func : Byte
  /-- REQ_START -/
  start : Half
  /-- REQ_COUNT -/
  count : Half
deriving DecidableEq, Repr

/-- RESP0 and RESP1 (10_state.md R32, R33). -/
structure ResponseRegs where
  /-- RESP_ADDR -/
  addr : Byte
  /-- RESP_FUNC -/
  func : Byte
  /-- RESP_BCNT -/
  bcnt : Byte
  /-- PAY_LEN -/
  payLen : Byte
deriving DecidableEq, Repr

/-- What a bus offset names (10_state.md R19); `reserved` is every other aligned offset. -/
inductive BlockReg where
  | cmd | status | config | crc | req0 | req1 | txLen | rxLen | resp0 | resp1
  | word (i : Fin 6)
  | physLo (i : Fin 6)
  | physHi (i : Fin 6)
  | txbuf (i : Fin 260)
  | rxbuf (i : Fin 260)
  | reserved
deriving DecidableEq, Repr

/-- One host bus access (20_memory.md R45): `size` is its width in bytes, and only 4 is accepted. A write
of another width gets a bus error whatever it carries, so `value` is read only when `size` is 4 (log 14). -/
inductive BusAccess where
  /-- MemRead(off, size) -/
  | read (off : Offset) (size : Nat)
  /-- MemWrite(off, size, value) -/
  | write (off : Offset) (size : Nat) (value : Word)
deriving DecidableEq, Repr

/-- What an access gets back (20_memory.md R45): a read's data, a write accepted, or a bus error. -/
inductive BusResponse where
  | data (v : Word)
  | done
  | busError
deriving DecidableEq, Repr

/-- A byte buffer: RX_MAX = TX_MAX = 260 bytes (00_scope.md R6). Every byte always holds a value, so equal
buffers are equal data (log 5). -/
abbrev ByteBuffer := Vector Byte 260

/-- The state: the block's registers and buffers (10_state.md R16, R41), and the model's own two lists,
which are the host's side of the bus and no block state (logs 1, 2). -/
structure State where
  /-- STATUS.CODE (R22) -/
  code : ResultCode
  /-- STATUS.WORD_COUNT (R23) -/
  wordCount : BitVec 3
  /-- STATUS.PHYS_VALID (R24) -/
  physValid : BitVec 6
  /-- STATUS.PARSE_OK (R25) -/
  parseOk : Bool
  /-- CONFIG (R26) -/
  config : AccelConfig
  /-- CRC (R27) -/
  crc : Half
  /-- REQ0, REQ1 (R28, R29) -/
  req : RequestRegs
  /-- TX_LEN (R30) -/
  txLen : FrameLen
  /-- RX_LEN (R31) -/
  rxLen : FrameLen
  /-- RESP0, RESP1 (R32, R33) -/
  resp : ResponseRegs
  /-- WORD0 to WORD5, the raw words (R34) -/
  words : Vector Half 6
  /-- PHYS0 to PHYS5 (R35) -/
  phys : Vector F64 6
  /-- TXBUF (R36) -/
  tx : ByteBuffer
  /-- RXBUF (R37) -/
  rx : ByteBuffer
  /-- The host's accesses not yet performed, oldest first. DESIGN CHOICE, log 1. -/
  pending : List BusAccess
  /-- The responses given, newest first. DESIGN CHOICE, log 2. -/
  log : List BusResponse
deriving DecidableEq, Repr

/-- Faults: none. The block has no traps (60_exceptions.md R113); a bus error is recorded in `log` and is
never final (20_memory.md R45). Nothing raises a fault, so there is nothing here to be safe or unsafe (log 4). -/
inductive Fault
deriving DecidableEq, Repr

/-- Refusals. -/
inductive Refusal where
  /-- Raised by an arm of exec whose instruction has no meaning yet; safe. No arm raises it. -/
  | notModelled (mnemonic : String)
deriving DecidableEq, Repr

/-- A buffer whose byte at index i is `f i`. -/
def bufferOf (f : Nat → Byte) : ByteBuffer := ⟨⟨(List.range 260).map f⟩, by simp⟩

/-- The state after power-on reset (10_state.md R42, 70_reset_and_hazards.md R129): every register 0 but CRC,
every buffer byte a free value (R43, log 6); the host has issued nothing and has been answered nothing
(logs 1, 2). -/
def State.reset : State where
  code := .ok
  wordCount := 0
  physValid := 0
  parseOk := false
  config := ⟨0, false⟩
  crc := 0xFFFF
  req := ⟨0, 0, 0, 0⟩
  txLen := 0
  rxLen := 0
  resp := ⟨0, 0, 0, 0⟩
  words := Vector.replicate 6 0
  phys := Vector.replicate 6 0
  tx := bufferOf Config.powerOnTx
  rx := bufferOf Config.powerOnRx
  pending := []
  log := []

end Sys2Proof.Machine
end

