-- ==== Sys2Proof/Machine/Flags.lean ====
section
/-! DEFINITION. The flags of the block, which are the fields of STATUS (10_state.md R21, R39): their bits
in the STATUS word and the values the commands give them. There are no arithmetic flags (R39). -/

namespace Sys2Proof.Machine

/-- The number of a result code (60_exceptions.md R115). -/
def resultBits : ResultCode → BitVec 4
  | .ok => 0x0
  | .tooShort => 0x1
  | .checksumMismatch => 0x2
  | .bytecountMismatch => 0x3
  | .frameTooLong => 0x4
  | .insufficientPayload => 0x5
  | .noFrame => 0x6
  | .wordsInvalid => 0x7
  | .scaleUnset => 0x8
  | .illegalCommand => 0x9

/-- The PHYS_VALID bits of the triple with base `b`: bits b, b+1 and b+2 (10_state.md R24). -/
def tripleMask (b : Nat) : BitVec 6 := 0b111#6 <<< b

/-- The STATUS word (10_state.md R21): CODE in 3:0, WORD_COUNT in 10:8, PHYS_VALID in 21:16, PARSE_OK in
bit 24, every other bit 0. -/
def statusWord (s : State) : Word :=
  (resultBits s.code).setWidth 32 ||| (s.wordCount.setWidth 32 <<< 8)
    ||| (s.physValid.setWidth 32 <<< 16) ||| ((BitVec.ofBool s.parseOk).setWidth 32 <<< 24)

end Sys2Proof.Machine
end

