-- ==== Sys2Proof/Machine/Ops.lean ====
section
/-! DEFINITION. The named operations: writing one register, ending a command with a result code, the byte
buffers, and the register map that host bus accesses go through. -/

namespace Sys2Proof.Machine

/-! ### One write of one register (00_scope.md R8: `x[NAME] <- v`) -/

/-- STATUS.CODE <- c -/
def State.setCode (c : ResultCode) (s : State) : State := { s with code := c }

/-- STATUS.WORD_COUNT <- n -/
def State.setWordCount (n : BitVec 3) (s : State) : State := { s with wordCount := n }

/-- STATUS.PHYS_VALID <- m -/
def State.setPhysValid (m : BitVec 6) (s : State) : State := { s with physValid := m }

/-- STATUS.PARSE_OK <- b -/
def State.setParseOk (b : Bool) (s : State) : State := { s with parseOk := b }

/-- CONFIG <- c -/
def State.setConfig (c : AccelConfig) (s : State) : State := { s with config := c }

/-- CRC <- c -/
def State.setCrc (c : Half) (s : State) : State := { s with crc := c }

/-- REQ0, REQ1 <- r -/
def State.setReq (r : RequestRegs) (s : State) : State := { s with req := r }

/-- TX_LEN <- n -/
def State.setTxLen (n : FrameLen) (s : State) : State := { s with txLen := n }

/-- RX_LEN <- n -/
def State.setRxLen (n : FrameLen) (s : State) : State := { s with rxLen := n }

/-- RESP0, RESP1 <- r -/
def State.setResp (r : ResponseRegs) (s : State) : State := { s with resp := r }

/-- WORD0 to WORD5 <- w -/
def State.setWords (w : Vector Half 6) (s : State) : State := { s with words := w }

/-- PHYS0 to PHYS5 <- p -/
def State.setPhys (p : Vector F64 6) (s : State) : State := { s with phys := p }

/-- TXBUF <- b -/
def State.setTx (b : ByteBuffer) (s : State) : State := { s with tx := b }

/-- RXBUF <- b -/
def State.setRx (b : ByteBuffer) (s : State) : State := { s with rx := b }

/-- The host's accesses still to come are `q` (log 1). -/
def State.setPending (q : List BusAccess) (s : State) : State := { s with pending := q }

/-- The bus answers `r` (log 2). -/
def State.respond (r : BusResponse) (s : State) : State := { s with log := r :: s.log }

/-! ### Ending a command

The block takes no exceptions: "Error entry saves nothing and redirects nothing" (60_exceptions.md R119),
and there is no return from an error (R120). These two operations are all there is. -/

/-- `raise CODE()` (00_scope.md R8): the command ends with `c` in STATUS.CODE. The writes the command made
before it stand, and nothing else is saved or changed (60_exceptions.md R119). -/
def raise (c : ResultCode) (s : State) : Host.Outcome State Fault Refusal := .next (s.setCode c)

/-- `finish()` (00_scope.md R8): the command ends with OK in STATUS.CODE. -/
def finish (s : State) : Host.Outcome State Fault Refusal := .next (s.setCode .ok)

/-! ### Register files and buffers -/

/-- The vector `v` with the entries of `xs` written from index `i` on; what would fall beyond the end is
not written. -/
def storeAt {α : Type} {n : Nat} (v : Vector α n) (i : Nat) : List α → Vector α n
  | [] => v
  | x :: xs => storeAt (v.setIfInBounds i x) (i + 1) xs

/-- `TX[i] <- ...` for the indexes from 0 on (00_scope.md R8). -/
def State.storeTx (bytes : List Byte) (s : State) : State := s.setTx (storeAt s.tx 0 bytes)

/-- `RX[i]` (00_scope.md R8). Every use has i < 260; beyond the buffer there is no byte, and the 0 there is
read by nothing (DESIGN CHOICE, log 17). -/
def State.rxByte (s : State) (i : Nat) : Byte := s.rx[i]?.getD 0

/-- `RX[0..j)` (00_scope.md R7, R8), for j at most 260. -/
def State.rxFrame (s : State) (j : Nat) : List Byte := s.rx.toList.take j

/-- `L <- x[RX_LEN]` as a number. -/
def State.frameLen (s : State) : Nat := s.rxLen.toNat

/-! ### The register map (10_state.md R19) -/

/-- The single registers of R19, by byte offset; the other offsets below 0x040 are reserved. -/
def controlReg (off : Nat) : BlockReg :=
  match off with
  | 0x000 => .cmd
  | 0x004 => .status
  | 0x008 => .config
  | 0x00C => .crc
  | 0x010 => .req0
  | 0x014 => .req1
  | 0x018 => .txLen
  | 0x01C => .rxLen
  | 0x020 => .resp0
  | 0x024 => .resp1
  | _ => .reserved

/-- The register at byte offset `off` (R19). Only aligned offsets reach it (20_memory.md R45). -/
def regAt (off : Nat) : BlockReg :=
  if off < 0x040 then controlReg off
  else if h : 0x040 ≤ off ∧ off < 0x058 then .word ⟨(off - 0x040) / 4, by omega⟩
  else if h : 0x080 ≤ off ∧ off < 0x0B0 then
    if (off - 0x080) % 8 < 4 then .physLo ⟨(off - 0x080) / 8, by omega⟩
    else .physHi ⟨(off - 0x080) / 8, by omega⟩
  else if h : 0x400 ≤ off ∧ off < 0x810 then .txbuf ⟨(off - 0x400) / 4, by omega⟩
  else if h : 0x1000 ≤ off ∧ off < 0x1410 then .rxbuf ⟨(off - 0x1000) / 4, by omega⟩
  else .reserved

/-- What a read of a register returns (10_state.md R20 to R37). Reserved fields and offsets read 0
(20_memory.md R46); a WORD reads sign-extended (R34). -/
def readReg (r : BlockReg) (s : State) : Word :=
  match r with
  | .cmd => 0
  | .status => statusWord s
  | .config => ((BitVec.ofBool s.config.halve).setWidth 32 <<< 16) ||| s.config.div.setWidth 32
  | .crc => s.crc.setWidth 32
  | .req0 => (s.req.func.setWidth 32 <<< 8) ||| s.req.addr.setWidth 32
  | .req1 => (s.req.count.setWidth 32 <<< 16) ||| s.req.start.setWidth 32
  | .txLen => s.txLen.setWidth 32
  | .rxLen => s.rxLen.setWidth 32
  | .resp0 =>
    (s.resp.bcnt.setWidth 32 <<< 16) ||| (s.resp.func.setWidth 32 <<< 8) ||| s.resp.addr.setWidth 32
  | .resp1 => s.resp.payLen.setWidth 32
  | .word i => s.words[i].signExtend 32
  | .physLo i => s.phys[i].extractLsb' 0 32
  | .physHi i => s.phys[i].extractLsb' 32 32
  | .txbuf i => s.tx[i].setWidth 32
  | .rxbuf i => s.rx[i].setWidth 32
  | .reserved => 0

/-- What a host write of `v` to a register other than CMD does (10_state.md R21 to R37): a read-write
register stores its writable fields, RX_LEN and RXBUF[i] also clear PARSE_OK (R25, 20_memory.md R49), and
read-only registers and reserved offsets ignore it (R46). A write to CMD stores nothing (R20); executing
its command is Machine/Bus.lean's. -/
def writeReg (r : BlockReg) (v : Word) (s : State) : State :=
  match r with
  | .config => s.setConfig ⟨v.extractLsb' 0 16, v.getLsbD 16⟩
  | .req0 => s.setReq { s.req with addr := v.extractLsb' 0 8, func := v.extractLsb' 8 8 }
  | .req1 => s.setReq { s.req with start := v.extractLsb' 0 16, count := v.extractLsb' 16 16 }
  | .txLen => s.setTxLen (v.extractLsb' 0 9)
  | .rxLen => (s.setRxLen (v.extractLsb' 0 9)).setParseOk false
  | .txbuf i => s.setTx (s.tx.set i (v.extractLsb' 0 8))
  | .rxbuf i => (s.setRx (s.rx.set i (v.extractLsb' 0 8))).setParseOk false
  | .cmd => s
  | .status => s
  | .crc => s
  | .resp0 => s
  | .resp1 => s
  | .word _ => s
  | .physLo _ => s
  | .physHi _ => s
  | .reserved => s

end Sys2Proof.Machine
end

