-- ==== Sys2Proof/Machine/Control.lean ====
section
/-! DEFINITION. The control commands: NOP and SOFT_RESET (43_control.md R108, R109). -/

namespace Sys2Proof.Machine

/-- Every block register of 10_state.md R42 at its reset value; the buffers are kept (R109), and so is the
host's side of the bus, which is no block register (DEDUCED, log 18). -/
def State.resetRegisters (s : State) : State :=
  { State.reset with tx := s.tx, rx := s.rx, pending := s.pending, log := s.log }

/-- NOP (43_control.md R108). -/
def execNop (s : State) : Host.Outcome State Fault Refusal := finish s

/-- SOFT_RESET (43_control.md R109). It ends with CODE = OK, the reset value of STATUS. -/
def execSoftReset (s : State) : Host.Outcome State Fault Refusal := .next s.resetRegisters

end Sys2Proof.Machine
end

