-- ==== Sys2Proof/Machine/Operands.lean ====
section
/-! DEFINITION. Where the commands take their operands from: the halves of a 16-bit value, the request
header, the payload words, a triple of WORD registers and the vendor command table (30_encoding.md R67,
R71, R75; 20_memory.md R52 to R54). The operand byte OPD is used as it is, unsigned (R67). -/

namespace Sys2Proof.Machine

/-- `v[15:8]`. -/
def highByte (v : Half) : Byte := v.extractLsb' 8 8

/-- `v[7:0]`. -/
def lowByte (v : Half) : Byte := v.extractLsb' 0 8

/-- A 16-bit frame field, most significant byte first (20_memory.md R52). -/
def bigEndian (v : Half) : List Byte := [highByte v, lowByte v]

/-- A checksum, least significant byte first (20_memory.md R53). -/
def littleEndian (v : Half) : List Byte := [lowByte v, highByte v]

/-- The first six bytes of a request frame (30_encoding.md R71, 41_frame.md R85). -/
def requestHeader (r : RequestRegs) : List Byte :=
  [r.addr, r.func] ++ bigEndian r.start ++ bigEndian r.count

/-- `hi ++ lo`, two bytes as one 16-bit value (00_scope.md R7). -/
def joinBytes (hi lo : Byte) : Half := (hi.setWidth 16 <<< 8) ||| lo.setWidth 16

/-- Payload word `i` of the frame in RXBUF: `RX[3+2i] ++ RX[4+2i]` (30_encoding.md R75, 20_memory.md R54). -/
def payloadWord (s : State) (i : Nat) : Half := joinBytes (s.rxByte (3 + 2 * i)) (s.rxByte (4 + 2 * i))

/-- Payload words 0 to n-1. -/
def payloadWords (s : State) (n : Nat) : List Half := (List.range n).map (payloadWord s)

/-- WORDb, WORD(b+1), WORD(b+2) (42_unpack.md R100). -/
def wordTriple (s : State) (b : Nat) : List Half := (s.words.toList.drop b).take 3

/-- VENDOR_CMD[k] (10_state.md R38): 0xFF, 0xAA and the two OPEN bytes (log 7). -/
def vendorCommand (k : Fin 4) : List Byte :=
  [0xFF, 0xAA, Config.vendorTail k 0, Config.vendorTail k 1]

end Sys2Proof.Machine
end

