-- ==== Sys2Proof/Machine/Crc.lean ====
section
/-! DEFINITION. The CRC unit: the CRC-16 Modbus function (40_crc.md R79) and the commands CRC_INIT,
CRC_BYTE and CRC_RXBUF (R80 to R82). -/

namespace Sys2Proof.Machine

/-- CRC_POLY_REFLECTED (00_scope.md R6). -/
def crcPoly : Half := 0xA001

/-- CRC_INIT_VALUE (00_scope.md R6). -/
def crcInitValue : Half := 0xFFFF

/-- One of the eight shift steps of `crc_step` (R79). -/
def crcShift (c : Half) : Half := if c.getLsbD 0 then (c >>> 1) ^^^ crcPoly else c >>> 1

/-- `repeat k times` of the shift step (R79). -/
def crcShifts : Nat → Half → Half
  | 0, c => c
  | k + 1, c => crcShifts k (crcShift c)

/-- `crc_step(c, b)` (R79). -/
def crcStep (c : Half) (b : Byte) : Half := crcShifts 8 (c ^^^ b.setWidth 16)

/-- `crc_step` over the bytes of `s` in order, from `c`. -/
def crcBytes (c : Half) (s : List Byte) : Half := s.foldl crcStep c

/-- `crc16(s)` (R79). -/
def crc16 (s : List Byte) : Half := crcBytes crcInitValue s

/-- CRC_INIT (40_crc.md R80). -/
def execCrcInit (s : State) : Host.Outcome State Fault Refusal :=
  finish (s.setCrc crcInitValue)

/-- CRC_BYTE b (40_crc.md R81). -/
def execCrcByte (b : Byte) (s : State) : Host.Outcome State Fault Refusal :=
  finish (s.setCrc (crcStep s.crc b))

/-- CRC_RXBUF (40_crc.md R82). -/
def execCrcRxbuf (s : State) : Host.Outcome State Fault Refusal :=
  if 260 < s.frameLen then raise .frameTooLong s
  else finish (s.setCrc (crc16 (s.rxFrame s.frameLen)))

end Sys2Proof.Machine
end

