-- ==== Sys2Proof/Machine/Frame.lean ====
section
/-! DEFINITION. The frame codec: BUILD_REQ, LOAD_VENDOR and PARSE (41_frame.md R85, R88, R90). -/

namespace Sys2Proof.Machine

/-- The request frame for the operands `r`: the header and its CRC, low byte first (30_encoding.md R71). -/
def requestFrame (r : RequestRegs) : List Byte :=
  requestHeader r ++ littleEndian (crc16 (requestHeader r))

/-- BUILD_REQ (41_frame.md R85). It checks none of its operands (R86). -/
def execBuildReq (s : State) : Host.Outcome State Fault Refusal :=
  finish (((s.storeTx (requestFrame s.req)).setTxLen 8).setCrc (crc16 (requestHeader s.req)))

/-- LOAD_VENDOR k (41_frame.md R88). No word decodes to a k above 3; such a k is what R68 calls an illegal
word, and ends as one (DEDUCED, log 9). -/
def execLoadVendor (k : Byte) (s : State) : Host.Outcome State Fault Refusal :=
  if h : legalVendorIndex k then
    finish ((s.storeTx (vendorCommand ⟨k.toNat, Nat.lt_succ_of_le h⟩)).setTxLen 4)
  else raise .illegalCommand s

/-- What every legal PARSE clears before it checks anything (41_frame.md R90, R92). -/
def State.clearParse (s : State) : State :=
  (((s.setWordCount 0).setPhysValid 0).setParseOk false).setResp ⟨0, 0, 0, 0⟩

/-- The CRC over all bytes of the frame but the trailing two (41_frame.md R91). -/
def State.frameCrc (s : State) : Half := crc16 (s.rxFrame (s.frameLen - 2))

/-- The received checksum equals `c`: both trailing bytes match, low byte first (41_frame.md R91). -/
def State.checksumMatches (s : State) (c : Half) : Bool :=
  decide (s.rxByte (s.frameLen - 2) = lowByte c ∧ s.rxByte (s.frameLen - 1) = highByte c)

/-- The header and payload length that a successful PARSE records (41_frame.md R90). -/
def State.frameHeader (s : State) : ResponseRegs :=
  ⟨s.rxByte 0, s.rxByte 1, s.rxByte 2, BitVec.ofNat 8 (s.frameLen - 5)⟩

/-- PARSE (41_frame.md R90, with the order of errors of R93). -/
def execParse (s : State) : Host.Outcome State Fault Refusal :=
  if s.frameLen < 5 then raise .tooShort s.clearParse
  else if 260 < s.frameLen then raise .frameTooLong s.clearParse
  else if ¬ s.checksumMatches s.frameCrc then
    raise .checksumMismatch (s.clearParse.setCrc s.frameCrc)
  else if (s.rxByte 2).toNat ≠ s.frameLen - 5 then
    raise .bytecountMismatch (s.clearParse.setCrc s.frameCrc)
  else finish (((s.clearParse.setCrc s.frameCrc).setResp s.frameHeader).setParseOk true)

end Sys2Proof.Machine
end

