-- ==== Sys2Proof/Machine/Binary64.lean ====
section
/-! DEFINITION. IEEE-754 binary64 as far as the scale functions need it: the value nearest a quotient,
ties to even, and the exact value of an encoding (00_scope.md R8, 42_unpack.md R98). The format and its
rounding are general knowledge of the spec (93_implementation_defined.md GK2; PRESUMED, log 8). -/

namespace Sys2Proof.Machine

/-- The fraction a/b times 2^k, as numerator and denominator. -/
def scalePow2 (a b : Nat) (k : Int) : Nat × Nat := (a * 2 ^ k.toNat, b * 2 ^ (-k).toNat)

/-- The integer nearest a/b, a tie to the even one. -/
def roundNearestEven (a b : Nat) : Nat :=
  if 2 * (a % b) < b then a / b
  else if b < 2 * (a % b) then a / b + 1
  else a / b + (a / b) % 2

/-- The e with 2^e ≤ a/b < 2^(e+1), for a and b above 0. -/
def quotientExponent (a b : Nat) : Int :=
  let e : Int := (Nat.log2 a : Int) - (Nat.log2 b : Int)
  let f := scalePow2 a b (-e)
  if f.2 ≤ f.1 then e else e - 1

/-- Bits 62:0 of the binary64 value nearest a/b: the exponent is that of a/b, not below the least normal
one (-1022), and the significand is a/b in units of the last place, rounded. Adding it to the shifted
exponent carries into the exponent where the rounding reaches the next power of two; the largest answer is
infinity. -/
def f64Magnitude (a b : Nat) : Nat :=
  if a = 0 then 0
  else
    let e := max (quotientExponent a b) (-1022)
    let f := scalePow2 a b (52 - e)
    min ((e + 1022).toNat * 2 ^ 52 + roundNearestEven f.1 f.2) (0x7FF * 2 ^ 52)

/-- `f64(num / den)` (00_scope.md R8), for den above 0: the sign bit and the magnitude; 0 gives +0.0. -/
def f64 (num : Int) (den : Nat) : F64 :=
  BitVec.ofNat 64 ((if num < 0 then 2 ^ 63 else 0) + f64Magnitude num.natAbs den)

/-- The exponent field of an encoding, bits 62:52 (00_scope.md R8). -/
def f64Exponent (x : F64) : Nat := (x.extractLsb' 52 11).toNat

/-- The fraction field of an encoding, bits 51:0 (00_scope.md R8). -/
def f64Fraction (x : F64) : Nat := (x.extractLsb' 0 52).toNat

/-- The significand of a finite encoding as an integer: with the hidden bit where the exponent field is
not 0. -/
def f64Significand (x : F64) : Nat :=
  if f64Exponent x = 0 then f64Fraction x else 2 ^ 52 + f64Fraction x

/-- The exact value of a finite encoding, as numerator and denominator: the significand times two to the
exponent field (at least 1) less 1075, with the sign. -/
def f64ToFraction (x : F64) : Int × Nat :=
  let f := scalePow2 (f64Significand x) 1 ((max (f64Exponent x) 1 : Nat) - 1075)
  (if x.msb then -(f.1 : Int) else f.1, f.2)

/-- The binary64 product of a finite `x` and the integer `c`, rounded (42_unpack.md R98: the expressions
are read left to right). -/
def f64Mul (x : F64) (c : Nat) : F64 := f64 ((f64ToFraction x).1 * c) (f64ToFraction x).2

/-- Half of a finite `x`, rounded (42_unpack.md R98; no result is inexact, R99). DEDUCED, log 16. -/
def f64Half (x : F64) : F64 := f64 (f64ToFraction x).1 ((f64ToFraction x).2 * 2)

end Sys2Proof.Machine
end

