-- ==== Sys2Proof/Machine/Unpack.lean ====
section
/-! DEFINITION. The unpacker: DECODE_WORDS (42_unpack.md R96), the three scale functions (R98) and the
commands SCALE_ACCEL, SCALE_GYRO and SCALE_ANGLE (R100 to R103). -/

namespace Sys2Proof.Machine

/-- DECODE_WORDS n (42_unpack.md R96). No word decodes to another n than 3 or 6; such an n is what R68
calls an illegal word, and ends as one (DEDUCED, log 9). -/
def execDecodeWords (n : Byte) (s : State) : Host.Outcome State Fault Refusal :=
  if ¬ legalWordCount n then raise .illegalCommand s
  else if s.parseOk = false then raise .noFrame ((s.setPhysValid 0).setWordCount 0)
  else if s.resp.payLen.toNat < 2 * n.toNat then
    raise .insufficientPayload ((s.setPhysValid 0).setWordCount 0)
  else
    finish (((s.setPhysValid 0).setWords (storeAt s.words 0 (payloadWords s n.toNat))).setWordCount
      (n.setWidth 3))

/-- `accel(r)` with divisor `div` and halving bit `halve` (42_unpack.md R98). -/
def accel (div : Half) (halve : Bool) (w : Half) : F64 :=
  if halve then f64Half (f64 w.toInt div.toNat) else f64 w.toInt div.toNat

/-- `gyro(r) = f64(f64(r / 32768) * 2000)` (42_unpack.md R98). -/
def gyro (w : Half) : F64 := f64Mul (f64 w.toInt 32768) 2000

/-- `angle(r) = f64(f64(r / 32768) * 180)` (42_unpack.md R98). -/
def angle (w : Half) : F64 := f64Mul (f64 w.toInt 32768) 180

/-- The lanes of SCALE_K(b) (42_unpack.md R100, R104): PHYS(b+j) <- K(WORD(b+j)) and PHYS_VALID bit b+j <- 1,
for j = 0, 1, 2. -/
def scaleLanes (k : Half → F64) (b : Nat) (s : State) : State :=
  (s.setPhys (storeAt s.phys b ((wordTriple s b).map k))).setPhysValid (s.physValid ||| tripleMask b)

/-- SCALE_K(b) (42_unpack.md R100): `unset` says that K is accel and ACCEL_DIV is 0. A base other than 0 and
3 is what R68 calls an illegal word, and ends as one (DEDUCED, log 9). -/
def scaleCommand (k : Half → F64) (unset : Bool) (b : Byte) (s : State) :
    Host.Outcome State Fault Refusal :=
  if ¬ legalBase b then raise .illegalCommand s
  else if s.wordCount.toNat < b.toNat + 3 then raise .wordsInvalid s
  else if unset then raise .scaleUnset s
  else finish (scaleLanes k b.toNat s)

/-- SCALE_ACCEL b (42_unpack.md R101). -/
def execScaleAccel (b : Byte) (s : State) : Host.Outcome State Fault Refusal :=
  scaleCommand (accel s.config.div s.config.halve) (s.config.div = 0) b s

/-- SCALE_GYRO b (42_unpack.md R102). -/
def execScaleGyro (b : Byte) (s : State) : Host.Outcome State Fault Refusal :=
  scaleCommand gyro false b s

/-- SCALE_ANGLE b (42_unpack.md R103). -/
def execScaleAngle (b : Byte) (s : State) : Host.Outcome State Fault Refusal :=
  scaleCommand angle false b s

end Sys2Proof.Machine
end

