-- ==== Sys2Proof/Machine/Dispatch.lean ====
section
/-! DEFINITION. Executing a command: one arm per constructor of Instr. -/

namespace Sys2Proof.Machine

def exec (i : Instr) (s : State) : Host.Outcome State Fault Refusal :=
  match i with
  | .nop => Sys2Proof.Machine.execNop s
  | .crcInit => Sys2Proof.Machine.execCrcInit s
  | .crcByte b => Sys2Proof.Machine.execCrcByte b s
  | .crcRxbuf => Sys2Proof.Machine.execCrcRxbuf s
  | .buildReq => Sys2Proof.Machine.execBuildReq s
  | .loadVendor k => Sys2Proof.Machine.execLoadVendor k s
  | .parse => Sys2Proof.Machine.execParse s
  | .decodeWords n => Sys2Proof.Machine.execDecodeWords n s
  | .scaleAccel b => Sys2Proof.Machine.execScaleAccel b s
  | .scaleGyro b => Sys2Proof.Machine.execScaleGyro b s
  | .scaleAngle b => Sys2Proof.Machine.execScaleAngle b s
  | .softReset => Sys2Proof.Machine.execSoftReset s

end Sys2Proof.Machine
end

