-- ==== Sys2Proof/Machine/Bus.lean ====
section
/-! DEFINITION. A host bus access (20_memory.md R45 to R50), which is the step of the machine (10_state.md
R15), and the execution of the command word that a write to CMD carries (R20). -/

namespace Sys2Proof.Machine

/-- The block accepts an access: 32 bits wide and aligned (20_memory.md R45). -/
def accepts (off : Offset) (size : Nat) : Bool := size = 4 && off.toNat % 4 = 0

/-- A write of `v` to CMD executes the command that `v` encodes (10_state.md R20, 30_encoding.md R64); an
illegal word does `raise ILLEGAL_COMMAND()` and nothing else (R68, 43_control.md R110). -/
def runCommand (v : Word) (s : State) : Host.Outcome State Fault Refusal :=
  match decode v with
  | .command i => exec i s
  | .illegal _ => raise .illegalCommand s

/-- An accepted write of `v` at `off`. -/
def hostWrite (off : Offset) (v : Word) (s : State) : Host.Outcome State Fault Refusal :=
  match regAt off.toNat with
  | .cmd => runCommand v s
  | r => .next (writeReg r v s)

/-- One access, answered and carried out in one atomic step (20_memory.md R47). An access the block does not
accept gets a bus error and changes no block state (R45, 60_exceptions.md R121); it ends nothing (log 4). -/
def busAccess (a : BusAccess) (s : State) : Host.Outcome State Fault Refusal :=
  match a with
  | .read off size =>
    if accepts off size then .next (s.respond (.data (readReg (regAt off.toNat) s)))
    else .next (s.respond .busError)
  | .write off size v =>
    if accepts off size then hostWrite off v (s.respond .done)
    else .next (s.respond .busError)

/-- The host's next access is performed. Where the host issues none, nothing happens: the block has no step
of its own (10_state.md R15) and holds its state (60_exceptions.md R128). DESIGN CHOICE, log 3. -/
def nextAccess (s : State) : Host.Outcome State Fault Refusal :=
  match s.pending with
  | [] => .next s
  | a :: rest => busAccess a (s.setPending rest)

/-- The host write that runs the command word `v`: WR CMD, v (30_encoding.md R78). -/
def commandWrite (v : Word) : BusAccess := .write 0 4 v

end Sys2Proof.Machine
end

