-- ==== Sys2Proof/Machine/Step.lean ====
section
/-! DEFINITION. One step of the machine: one host bus access (10_state.md R15, 20_memory.md R47). -/

namespace Sys2Proof.Machine

/-- One step. -/
def step (s : State) : Host.Outcome State Fault Refusal := nextAccess s

/-- `s` with the host's next access being the write of a command word to CMD, so that the next step runs it.
The block fetches nothing (20_memory.md R62): this is the host issuing the command (log 1). -/
def State.withFetchWord (s : State) (nbits w : Nat) : State :=
  s.setPending (commandWrite (tableWord nbits w) :: s.pending)

end Sys2Proof.Machine
end

