-- ==== Sys2Proof/Safety.lean ====
section
/-! DEFINITION. The terms claims are stated in: the value of a binary64 encoding, the fields of a register,
a valid response frame, the host's way of loading one, and what every state of a run is expected to meet. -/

namespace Sys2Proof.Machine

/-! ### Binary64 values -/

/-- The real value of a finite encoding, as a rational (00_scope.md R8). -/
def f64Value (x : F64) : ℚ := ((f64ToFraction x).1 : ℚ) / ((f64ToFraction x).2 : ℚ)

/-- Neither infinite nor NaN. -/
abbrev f64Finite (x : F64) : Prop := f64Exponent x < 0x7FF

/-- Finite and neither zero nor subnormal. -/
abbrev f64Normal (x : F64) : Prop := 0 < f64Exponent x ∧ f64Exponent x < 0x7FF

/-! ### Registers -/

/-- The bits of a register that are fields and not reserved (10_state.md R21 to R37). -/
def fieldMask : BlockReg → Word
  | .cmd => 0
  | .status => 0x013F070F
  | .config => 0x0001FFFF
  | .crc => 0x0000FFFF
  | .req0 => 0x0000FFFF
  | .req1 => 0xFFFFFFFF
  | .txLen => 0x000001FF
  | .rxLen => 0x000001FF
  | .resp0 => 0x00FFFFFF
  | .resp1 => 0x000000FF
  | .word _ => 0xFFFFFFFF
  | .physLo _ => 0xFFFFFFFF
  | .physHi _ => 0xFFFFFFFF
  | .txbuf _ => 0x000000FF
  | .rxbuf _ => 0x000000FF
  | .reserved => 0

/-- The read-write registers (10_state.md R19). -/
def isReadWrite : BlockReg → Bool
  | .config => true
  | .req0 => true
  | .req1 => true
  | .txLen => true
  | .rxLen => true
  | .txbuf _ => true
  | .rxbuf _ => true
  | .cmd => false
  | .status => false
  | .crc => false
  | .resp0 => false
  | .resp1 => false
  | .word _ => false
  | .physLo _ => false
  | .physHi _ => false
  | .reserved => false

/-- RX_LEN or a byte of RXBUF: the registers whose write clears PARSE_OK (10_state.md R25). -/
def isReceive : BlockReg → Bool
  | .rxLen => true
  | .rxbuf _ => true
  | .cmd => false
  | .status => false
  | .config => false
  | .crc => false
  | .req0 => false
  | .req1 => false
  | .txLen => false
  | .resp0 => false
  | .resp1 => false
  | .word _ => false
  | .physLo _ => false
  | .physHi _ => false
  | .txbuf _ => false
  | .reserved => false

/-- A byte of TXBUF or RXBUF. -/
def isBuffer : BlockReg → Bool
  | .txbuf _ => true
  | .rxbuf _ => true
  | .cmd => false
  | .status => false
  | .config => false
  | .crc => false
  | .req0 => false
  | .req1 => false
  | .txLen => false
  | .rxLen => false
  | .resp0 => false
  | .resp1 => false
  | .word _ => false
  | .physLo _ => false
  | .physHi _ => false
  | .reserved => false

/-! ### Response frames -/

/-- The checksum of the frame in RXBUF computed over all bytes but the trailing two, for a frame length
`len` (41_frame.md R91). -/
def checksumOver (s : State) (len : Nat) : Half := crc16 (s.rx.toList.take (len - 2))

/-- The trailing two bytes are that checksum, low byte first (41_frame.md R91). -/
abbrev ChecksumOk (s : State) : Prop :=
  s.rxByte (s.rxLen.toNat - 2) = (checksumOver s s.rxLen.toNat).extractLsb' 0 8 ∧
    s.rxByte (s.rxLen.toNat - 1) = (checksumOver s s.rxLen.toNat).extractLsb' 8 8

/-- The frame of RX_LEN bytes in RXBUF is a valid response: long enough, not longer than the buffer, with
the right checksum and the right byte-count (30_encoding.md R72). -/
abbrev ValidFrame (s : State) : Prop :=
  5 ≤ s.rxLen.toNat ∧ s.rxLen.toNat ≤ 260 ∧ ChecksumOk s ∧ (s.rxByte 2).toNat = s.rxLen.toNat - 5

/-- The response frame with a given header and payload (30_encoding.md R72). -/
def responseFrame (addr func : Byte) (payload : List Byte) : List Byte :=
  let body := [addr, func, BitVec.ofNat 8 payload.length] ++ payload
  body ++ [(crc16 body).extractLsb' 0 8, (crc16 body).extractLsb' 8 8]

/-- The payload that carries 16-bit words, most significant byte first (20_memory.md R54). -/
def wordsPayload (ws : List Half) : List Byte :=
  ws.flatMap fun w => [w.extractLsb' 8 8, w.extractLsb' 0 8]

/-- The host writes that put `bytes` into RXBUF from index `i` on (30_encoding.md R78, LOAD_RX). -/
def loadRxFrom (i : Nat) : List Byte → List BusAccess
  | [] => []
  | b :: bs => .write (BitVec.ofNat 13 (0x1000 + 4 * i)) 4 (b.setWidth 32) :: loadRxFrom (i + 1) bs

/-- LOAD_RX (30_encoding.md R78): the bytes into RXBUF, then their number into RX_LEN. -/
def loadRx (bytes : List Byte) : List BusAccess :=
  loadRxFrom 0 bytes ++ [.write 0x01C 4 (BitVec.ofNat 32 bytes.length)]

/-- The host write that executes command `i` (30_encoding.md R78). -/
def command (i : Instr) : BusAccess := commandWrite (encode i)

/-! ### What a command does -/

/-- The fields of STATUS other than CODE, and RESP0 and RESP1, as every legal PARSE clears them
(41_frame.md R90, R92). -/
def parseCleared (s : State) : State :=
  { s with wordCount := 0, physValid := 0, parseOk := false, resp := ⟨0, 0, 0, 0⟩ }

/-- From `s` command `i` scales the triple with base `b` by `k` (42_unpack.md R100, R104): it completes; PHYSj
and PHYS_VALID bit j are written for the three j of the triple and kept for the others; nothing else but
CODE changes. -/
def ScalesTriple (s : State) (b : Byte) (i : Instr) (k : Half → F64) : Prop :=
  ∃ t, exec i s = .next t ∧
    (∀ j : Fin 6, b.toNat ≤ j.val ∧ j.val < b.toNat + 3 →
      t.phys[j] = k s.words[j] ∧ t.physValid.getLsbD j = true) ∧
    (∀ j : Fin 6, ¬ (b.toNat ≤ j.val ∧ j.val < b.toNat + 3) →
      t.phys[j] = s.phys[j] ∧ t.physValid.getLsbD j = s.physValid.getLsbD j) ∧
    t = { s with phys := t.phys, physValid := t.physValid, code := .ok }

/-- The result codes a legal command can report (60_exceptions.md R115, R117). -/
def possibleCodes : Instr → List ResultCode
  | .nop => [.ok]
  | .crcInit => [.ok]
  | .crcByte _ => [.ok]
  | .crcRxbuf => [.ok, .frameTooLong]
  | .buildReq => [.ok]
  | .loadVendor _ => [.ok]
  | .parse => [.ok, .tooShort, .frameTooLong, .checksumMismatch, .bytecountMismatch]
  | .decodeWords _ => [.ok, .noFrame, .insufficientPayload]
  | .scaleAccel _ => [.ok, .wordsInvalid, .scaleUnset]
  | .scaleGyro _ => [.ok, .wordsInvalid]
  | .scaleAngle _ => [.ok, .wordsInvalid]
  | .softReset => [.ok]

/-! ### What every state of a run meets -/

/-- `x` is a scaled value of the raw word `w`, by one of the three scale functions (42_unpack.md R98). -/
def ScaledFrom (w : Half) (x : F64) : Prop :=
  x = gyro w ∨ x = angle w ∨ ∃ div halve, div ≠ 0 ∧ x = accel div halve w

/-- What the valid flags of STATUS promise (10_state.md R23 to R25, R33). -/
structure Coherent (s : State) : Prop where
  /-- WORD_COUNT takes only the values 0, 3 and 6 (R23). -/
  wordCountLegal : s.wordCount = 0 ∨ s.wordCount = 3 ∨ s.wordCount = 6
  /-- PARSE_OK = 1 means that RXBUF holds a valid frame and that RESP0 and RESP1 describe it (R25, R32, R33). -/
  parsed : s.parseOk = true →
    ValidFrame s ∧
      s.resp = ⟨s.rxByte 0, s.rxByte 1, s.rxByte 2, BitVec.ofNat 8 (s.rxLen.toNat - 5)⟩
  /-- The byte-count and the payload length recorded agree (30_encoding.md R72). -/
  bcntIsPayLen : s.resp.bcnt = s.resp.payLen
  /-- The words counted fit the payload recorded (42_unpack.md R96). -/
  wordsFit : 2 * s.wordCount.toNat ≤ s.resp.payLen.toNat
  /-- While the frame is unchanged, the words counted are its payload words (42_unpack.md R97). -/
  wordsCurrent : s.parseOk = true → ∀ i : Fin 6, i.val < s.wordCount.toNat →
    s.words[i] = joinBytes (s.rxByte (3 + 2 * i)) (s.rxByte (4 + 2 * i))
  /-- PHYS_VALID bit i means that PHYSi is a scaled value of a WORDi that counts (R24). -/
  physCurrent : ∀ i : Fin 6, s.physValid.getLsbD i = true →
    i.val < s.wordCount.toNat ∧ ScaledFrom s.words[i] s.phys[i]

/-- The host program so far drew no bus error (20_memory.md R45: "a fault of the host program"). -/
def NoBusError (s : State) : Prop := BusResponse.busError ∉ s.log

end Sys2Proof.Machine
end

