-- ==== Sys2Proof/Certificates/Slice0/Obligations.lean ====
section
/-! DEFINITION. The statements for the provers, each from the spec's rules: encoding, the bus, the CRC unit,
the frame codec, the unpacker, control and reset, and the rules about the whole machine. -/

open Sys2Proof Sys2Proof.Machine

/-! ### Encoding -/

/-- Every legal command is read back from its word, with its operand at every legal value. -/
def Obligations.DecodeOfEncodeIsTheCommand : Prop :=
  ∀ i : Instr, i.WellFormed = true → decode (encode i) = .command i

/-- A word that decodes to a command is that command's word, and the command is legal: no two words are one
command, and no word decodes to an illegal operand. -/
def Obligations.DecodedCommandEncodesToItsWord : Prop :=
  ∀ (v : Word) (i : Instr), decode v = .command i → i.WellFormed = true ∧ encode i = v

/-- R70: the decoder is the case table, and exactly 274 words are legal. -/
def Obligations.DecoderFollowsItsCaseTable : Prop :=
  (∀ (v : Word) (i : Instr), decode v = .command i ↔ v.extractLsb' 16 16 = 0 ∧
    ((v.extractLsb' 0 8 = 0x00 ∧ v.extractLsb' 8 8 = 0 ∧ i = .nop) ∨
     (v.extractLsb' 0 8 = 0x01 ∧ v.extractLsb' 8 8 = 0 ∧ i = .crcInit) ∨
     (v.extractLsb' 0 8 = 0x02 ∧ i = .crcByte (v.extractLsb' 8 8)) ∨
     (v.extractLsb' 0 8 = 0x03 ∧ v.extractLsb' 8 8 = 0 ∧ i = .crcRxbuf) ∨
     (v.extractLsb' 0 8 = 0x10 ∧ v.extractLsb' 8 8 = 0 ∧ i = .buildReq) ∨
     (v.extractLsb' 0 8 = 0x11 ∧ (v.extractLsb' 8 8).toNat ≤ 3 ∧ i = .loadVendor (v.extractLsb' 8 8)) ∨
     (v.extractLsb' 0 8 = 0x20 ∧ v.extractLsb' 8 8 = 0 ∧ i = .parse) ∨
     (v.extractLsb' 0 8 = 0x30 ∧ (v.extractLsb' 8 8 = 3 ∨ v.extractLsb' 8 8 = 6) ∧
       i = .decodeWords (v.extractLsb' 8 8)) ∨
     (v.extractLsb' 0 8 = 0x31 ∧ (v.extractLsb' 8 8 = 0 ∨ v.extractLsb' 8 8 = 3) ∧
       i = .scaleAccel (v.extractLsb' 8 8)) ∨
     (v.extractLsb' 0 8 = 0x32 ∧ (v.extractLsb' 8 8 = 0 ∨ v.extractLsb' 8 8 = 3) ∧
       i = .scaleGyro (v.extractLsb' 8 8)) ∨
     (v.extractLsb' 0 8 = 0x33 ∧ (v.extractLsb' 8 8 = 0 ∨ v.extractLsb' 8 8 = 3) ∧
       i = .scaleAngle (v.extractLsb' 8 8)) ∨
     (v.extractLsb' 0 8 = 0xF0 ∧ v.extractLsb' 8 8 = 0 ∧ i = .softReset))) ∧
  ∃ l : List Word, l.Nodup ∧ l.length = 274 ∧ ∀ v, v ∈ l ↔ ∃ i, decode v = .command i

/-- R68: a word is illegal exactly in the four cases, and executing it only reports ILLEGAL_COMMAND. -/
def Obligations.IllegalWordsAreTheFourKinds : Prop :=
  ∀ v : Word,
    ((∃ why, decode v = .illegal why) ↔
      v.extractLsb' 16 16 ≠ 0 ∨
      v.extractLsb' 0 8 ∉ ([0x00, 0x01, 0x02, 0x03, 0x10, 0x11, 0x20, 0x30, 0x31, 0x32, 0x33, 0xF0] : List Byte) ∨
      (v.extractLsb' 0 8 ∈ ([0x00, 0x01, 0x03, 0x10, 0x20, 0xF0] : List Byte) ∧ v.extractLsb' 8 8 ≠ 0) ∨
      (v.extractLsb' 0 8 = 0x11 ∧ 3 < (v.extractLsb' 8 8).toNat) ∨
      (v.extractLsb' 0 8 = 0x30 ∧ v.extractLsb' 8 8 ≠ 3 ∧ v.extractLsb' 8 8 ≠ 6) ∨
      (v.extractLsb' 0 8 ∈ ([0x31, 0x32, 0x33] : List Byte) ∧ v.extractLsb' 8 8 ≠ 0 ∧ v.extractLsb' 8 8 ≠ 3)) ∧
    ∀ why s, decode v = .illegal why → runCommand v s = .next { s with code := .illegalCommand }

/-- A few words of the spec's table and vectors decode to the commands they stand for. -/
def Obligations.SampleWordsDecode : Prop :=
  decode 0x00000000 = .command .nop ∧ decode 0x00005002 = .command (.crcByte 0x50) ∧
  decode 0x00000211 = .command (.loadVendor 2) ∧ decode 0x00000020 = .command .parse ∧
  decode 0x00000630 = .command (.decodeWords 6) ∧ decode 0x00000332 = .command (.scaleGyro 3) ∧
  decode 0x000000F0 = .command .softReset

/-- A command term with an operand outside its legal set, which no word decodes to, ends as an illegal word
does. This is the model's reading (DEDUCED, log 9). -/
def Obligations.IllFormedOperandsEndAsIllegal : Prop :=
  ∀ (i : Instr) (s : State), i.WellFormed = false → exec i s = .next { s with code := .illegalCommand }

/-! ### The bus -/

/-- A step whose access is the write of a command word to CMD is the execution of the decoded command, with
the access taken off the host's list and answered; an illegal word reports ILLEGAL_COMMAND. The two lists
are the model's own (DESIGN CHOICE, logs 1, 2). -/
def Obligations.StepExecutesTheCommandWritten : Prop :=
  ∀ (s : State) (v : Word) (rest : List BusAccess), s.pending = .write 0x000 4 v :: rest →
    (∀ i, decode v = .command i → step s = exec i { s with pending := rest, log := .done :: s.log }) ∧
    (∀ why, decode v = .illegal why → step s =
      .next { s with pending := rest, log := .done :: s.log, code := .illegalCommand })

/-- R110: an illegal command word writes 0x9 to CODE and leaves every other register, flag and buffer byte;
with the rule's examples. -/
def Obligations.IllegalWordChangesOnlyCode : Prop :=
  (∀ (s : State) (v : Word), (∀ i, decode v ≠ .command i) →
    runCommand v s = .next { s with code := .illegalCommand }) ∧
  resultBits .illegalCommand = 0x9 ∧
  ∀ v ∈ ([0x00010000, 0x00000004, 0x00000101, 0x00000430, 0x00000131] : List Word),
    ∃ why, decode v = .illegal why

/-- R121: a misaligned or non-32-bit access is answered by a bus error on the bus response and changes no
block state, CODE among it. (That the access leaves `pending` and its answer enters `log` is the model's
form, logs 1 and 2; no rule is cited for it.) -/
def Obligations.BusErrorChangesNoBlockState : Prop :=
  ∀ (s : State) (a : BusAccess) (off : Offset) (size : Nat) (v : Word) (rest : List BusAccess),
    s.pending = a :: rest → (a = .read off size ∨ a = .write off size v) →
    (off.toNat % 4 ≠ 0 ∨ size ≠ 4) →
      step s = .next { s with pending := rest, log := .busError :: s.log }

/-- Each step performs at most one access, the host's oldest, and adds its answer to the answers before it,
so a bus error once recorded stays recorded. The two lists are the model's own (logs 1, 2); with none
pending nothing happens (log 3). -/
def Obligations.EachStepAnswersTheOldestAccess : Prop :=
  ∀ s t : State, step s = .next t →
    (s.pending = [] ∧ t = s) ∨
    ∃ a rest r, s.pending = a :: rest ∧ t.pending = rest ∧ t.log = r :: s.log

/-- No state and no access stops the block: every step answers a next state, and every command does. A
bus error does not end the run (log 4), and a step without an access leaves the state (log 3). -/
def Obligations.NothingStopsTheBlock : Prop :=
  (∀ s : State, ∃ t, step s = .next t) ∧ ∀ (i : Instr) (s : State), ∃ t, exec i s = .next t

/-- R48: a read returns the current value of the addressed register and changes nothing, and repeating it
returns the same value. (`pending` and `log` are the model's form, logs 1 and 2; no rule is cited for them.) -/
def Obligations.ReadsHaveNoSideEffect : Prop :=
  (∀ (s : State) (off : Offset) (rest : List BusAccess),
    s.pending = .read off 4 :: rest → off.toNat % 4 = 0 →
      step s = .next { s with
        pending := rest, log := .data (readReg (regAt off.toNat) s) :: s.log }) ∧
  ∀ (s : State) (off : Offset) (rest : List BusAccess),
    s.pending = .read off 4 :: .read off 4 :: rest → off.toNat % 4 = 0 →
      core.run 2 s = .next { s with
        pending := rest,
        log := .data (readReg (regAt off.toNat) s) :: .data (readReg (regAt off.toNat) s) :: s.log }

/-- The register map: every offset of the table, and every other aligned offset is reserved. -/
def Obligations.RegisterMapIsTheTable : Prop :=
  regAt 0x000 = .cmd ∧ regAt 0x004 = .status ∧ regAt 0x008 = .config ∧ regAt 0x00C = .crc ∧
  regAt 0x010 = .req0 ∧ regAt 0x014 = .req1 ∧ regAt 0x018 = .txLen ∧ regAt 0x01C = .rxLen ∧
  regAt 0x020 = .resp0 ∧ regAt 0x024 = .resp1 ∧
  (∀ i : Fin 6, regAt (0x040 + 4 * i) = .word i ∧ regAt (0x080 + 8 * i) = .physLo i ∧
    regAt (0x084 + 8 * i) = .physHi i) ∧
  (∀ i : Fin 260, regAt (0x400 + 4 * i) = .txbuf i ∧ regAt (0x1000 + 4 * i) = .rxbuf i) ∧
  ∀ off, off % 4 = 0 → off ≤ 0x1FFC →
    (regAt off = .reserved ↔
      ¬ (off ≤ 0x024 ∨ (0x040 ≤ off ∧ off ≤ 0x054) ∨ (0x080 ≤ off ∧ off ≤ 0x0AC) ∨
        (0x400 ≤ off ∧ off ≤ 0x80C) ∨ (0x1000 ≤ off ∧ off ≤ 0x140C)))

/-- R46: reserved offsets and reserved bits read 0; a write to a reserved offset or to a read-only register is
ignored; the reserved bits of a write to a read-write register are ignored. (`pending` and `log` are the model's form,
logs 1 and 2; no rule is cited for them.) -/
def Obligations.ReservedReadsZeroAndIgnoresWrites : Prop :=
  (∀ (r : BlockReg) (s : State), readReg r s &&& ~~~ fieldMask r = 0) ∧
  (∀ (s : State) (off : Offset) (rest : List BusAccess),
    s.pending = .read off 4 :: rest → off.toNat % 4 = 0 → regAt off.toNat = .reserved →
      step s = .next { s with pending := rest, log := .data 0 :: s.log }) ∧
  (∀ (s : State) (off : Offset) (v : Word) (rest : List BusAccess),
    s.pending = .write off 4 v :: rest → off.toNat % 4 = 0 → regAt off.toNat ≠ .cmd →
    isReadWrite (regAt off.toNat) = false →
      step s = .next { s with pending := rest, log := .done :: s.log }) ∧
  ∀ (r : BlockReg) (v w : Word) (s : State), v &&& fieldMask r = w &&& fieldMask r →
    writeReg r v s = writeReg r w s

/-- A read-write register reads back the fields written, and no other register reads otherwise than before,
but for STATUS where the receive side is written. -/
def Obligations.WrittenFieldsReadBack : Prop :=
  ∀ (r : BlockReg) (v : Word) (s : State), isReadWrite r = true →
    readReg r (writeReg r v s) = v &&& fieldMask r ∧
    (∀ q, q ≠ r → q ≠ .status → readReg q (writeReg r v s) = readReg q s) ∧
    (isReceive r = false → statusWord (writeReg r v s) = statusWord s) ∧
    (isReceive r = true → statusWord (writeReg r v s) = statusWord s &&& 0xFEFFFFFF)

/-- R49: what each host write does. A write to CMD runs its word; RX_LEN and RXBUF also clear PARSE_OK; the
other read-write registers only store; no other register is written. A second equal register write changes
nothing; a second equal write to CMD does: two CRC_BYTE writes advance the CRC twice. (`pending` and `log`
are the model's form, logs 1 and 2; no rule is cited for them.) -/
def Obligations.WritesWithSideEffectsAreExactlyThese : Prop :=
  (∀ (s : State) (off : Offset) (v : Word) (rest : List BusAccess), s.pending = .write off 4 v :: rest →
    (off = 0x000 → step s = runCommand v { s with pending := rest, log := .done :: s.log }) ∧
    (off = 0x008 → step s = .next { s with
      pending := rest, log := .done :: s.log, config := ⟨v.extractLsb' 0 16, v.getLsbD 16⟩ }) ∧
    (off = 0x010 → step s = .next { s with
      pending := rest, log := .done :: s.log,
      req := ⟨v.extractLsb' 0 8, v.extractLsb' 8 8, s.req.start, s.req.count⟩ }) ∧
    (off = 0x014 → step s = .next { s with
      pending := rest, log := .done :: s.log,
      req := ⟨s.req.addr, s.req.func, v.extractLsb' 0 16, v.extractLsb' 16 16⟩ }) ∧
    (off = 0x018 → step s = .next { s with
      pending := rest, log := .done :: s.log, txLen := v.extractLsb' 0 9 }) ∧
    (off = 0x01C → step s = .next { s with
      pending := rest, log := .done :: s.log, rxLen := v.extractLsb' 0 9, parseOk := false }) ∧
    (∀ i : Fin 260, off = BitVec.ofNat 13 (0x400 + 4 * i) → step s = .next { s with
      pending := rest, log := .done :: s.log, tx := s.tx.set i (v.extractLsb' 0 8) }) ∧
    (∀ i : Fin 260, off = BitVec.ofNat 13 (0x1000 + 4 * i) → step s = .next { s with
      pending := rest, log := .done :: s.log, rx := s.rx.set i (v.extractLsb' 0 8), parseOk := false })) ∧
  (∀ (r : BlockReg) (v : Word) (s : State), isReadWrite r = false → writeReg r v s = s) ∧
  (∀ (r : BlockReg) (v : Word) (s : State), writeReg r v (writeReg r v s) = writeReg r v s) ∧
  ∀ (s : State) (b : Byte) (rest : List BusAccess),
    s.pending = command (.crcByte b) :: command (.crcByte b) :: rest →
      core.run 2 s = .next { s with
        pending := rest, log := .done :: .done :: s.log, code := .ok,
        crc := crcStep (crcStep s.crc b) b }

/-- R136: a write of RXBUF or RX_LEN, whatever the value, makes PARSE_OK 0, and DECODE_WORDS then reports
NO_FRAME and decodes nothing. (`pending` is the model's form of the host's accesses, log 1.) -/
def Obligations.ReceiveWriteInvalidatesTheParse : Prop :=
  (∀ (s : State) (off : Offset) (v : Word) (rest : List BusAccess),
    s.pending = .write off 4 v :: rest → off.toNat % 4 = 0 → isReceive (regAt off.toNat) = true →
      ∃ t, step s = .next t ∧ t.parseOk = false) ∧
  ∀ (s : State) (off : Offset) (v : Word) (n : Byte) (rest : List BusAccess),
    s.pending = .write off 4 v :: command (.decodeWords n) :: rest → off.toNat % 4 = 0 →
    isReceive (regAt off.toNat) = true → (n = 3 ∨ n = 6) →
      ∃ t, core.run 2 s = .next t ∧ t.parseOk = false ∧ t.code = .noFrame ∧ t.words = s.words

/-- With no access pending the step leaves the state as it is. This is the model's choice (DESIGN CHOICE,
log 3): the block has no step of its own (10_state.md R15). -/
def Obligations.IdleStepHoldsTheState : Prop :=
  ∀ s : State, s.pending = [] → step s = .next s

/-- No command writes RXBUF, and none but SOFT_RESET writes CONFIG, REQ0, REQ1 or RX_LEN. That the host's two
lists are kept too is the model's choice: they are its own (DESIGN CHOICE, logs 1, 2), and SOFT_RESET keeps
them (DEDUCED, log 18). -/
def Obligations.CommandsKeepTheHostsOperands : Prop :=
  ∀ (i : Instr) (s t : State), exec i s = .next t →
    t.rx = s.rx ∧ t.pending = s.pending ∧ t.log = s.log ∧
    (i ≠ .softReset → t.config = s.config ∧ t.req = s.req ∧ t.rxLen = s.rxLen)

/-! ### The CRC unit -/

/-- R79: the CRC function is the document's loop, from 0xFFFF, with no final XOR and no reversal; the request
frame carries it low byte first. -/
def Obligations.CrcFunctionIsTheDocumentedLoop : Prop :=
  (∀ (c : Half) (b : Byte), crcStep c b =
    (List.range 8).foldl (fun x _ => if x.getLsbD 0 then (x >>> 1) ^^^ 0xA001#16 else x >>> 1)
      (c ^^^ b.setWidth 16)) ∧
  (∀ s : List Byte, crc16 s = s.foldl crcStep 0xFFFF#16) ∧
  ∀ r : RequestRegs, requestFrame r = requestHeader r ++
    [(crc16 (requestHeader r)).extractLsb' 0 8, (crc16 (requestHeader r)).extractLsb' 8 8]

/-- R80: CRC_INIT. -/
def Obligations.CrcInitSetsTheInitialValue : Prop :=
  (∀ s : State, exec .crcInit s = .next { s with crc := 0xFFFF, code := .ok }) ∧
  encode .crcInit = 0x00000001 ∧
  (∀ v : Word, v.extractLsb' 0 8 = 0x01 → v ≠ 0x00000001 → ∃ why, decode v = .illegal why) ∧
  ∀ s t : State, exec .crcInit s = .next t → exec .crcInit t = .next t

/-- CRC_BYTE continues from whatever CRC holds, with the spec's example. -/
def Obligations.CrcByteFeedsOneByte : Prop :=
  (∀ (s : State) (b : Byte), exec (.crcByte b) s = .next { s with crc := crcStep s.crc b, code := .ok }) ∧
  (∀ b : Byte, encode (.crcByte b) = (b.setWidth 32 <<< 8) ||| 0x02) ∧
  crcStep 0xFFFF 0x50 = 0x7CBF

/-- CRC_INIT followed by CRC_BYTE for each byte of `bytes` leaves their CRC-16 in CRC and changes nothing else
of the block. The host's accesses stand in the model's own list (DESIGN CHOICE, log 1). -/
def Obligations.CrcByteSequenceLeavesCrc16 : Prop :=
  ∀ (s : State) (bytes : List Byte) (rest : List BusAccess),
    s.pending = command .crcInit :: (bytes.map fun b => command (.crcByte b)) ++ rest →
      ∃ t, core.run (1 + bytes.length) s = .next t ∧
        t = { s with crc := crc16 bytes, code := .ok, pending := rest, log := t.log }

/-- R82: CRC_RXBUF, with its error, its corner cases and its example. -/
def Obligations.CrcRxbufCoversTheFrame : Prop :=
  (∀ s : State,
    (260 < s.rxLen.toNat → exec .crcRxbuf s = .next { s with code := .frameTooLong }) ∧
    (s.rxLen.toNat ≤ 260 → exec .crcRxbuf s =
      .next { s with crc := crc16 (s.rx.toList.take s.rxLen.toNat), code := .ok }) ∧
    (s.rxLen = 0 → exec .crcRxbuf s = .next { s with crc := 0xFFFF, code := .ok }) ∧
    (s.rxLen = 260 → exec .crcRxbuf s = .next { s with crc := crc16 s.rx.toList, code := .ok }) ∧
    (s.rxLen = 9 → s.rx.toList.take 9 = [0x31, 0x32, 0x33, 0x34, 0x35, 0x36, 0x37, 0x38, 0x39] →
      exec .crcRxbuf s = .next { s with crc := 0x4B37, code := .ok })) ∧
  encode .crcRxbuf = 0x00000003

/-- Appending its CRC, low byte first, to any sequence gives a sequence with CRC 0. The general law is general
knowledge of the spec (40_crc.md R83 d), derived here from the function. -/
def Obligations.CrcResidueIsZero : Prop :=
  ∀ s : List Byte, crc16 (s ++ [(crc16 s).extractLsb' 0 8, (crc16 s).extractLsb' 8 8]) = 0

/-- Changing one byte of a sequence, wherever it stands, changes its CRC. -/
def Obligations.CrcDetectsEveryOneByteChange : Prop :=
  ∀ (p q : List Byte) (b b' : Byte), b ≠ b' → crc16 (p ++ b :: q) ≠ crc16 (p ++ b' :: q)

/-! ### The frame codec -/

/-- R85, R71: BUILD_REQ writes the eight bytes of the request frame, keeps the other bytes of TXBUF, and sets
TX_LEN, CRC and CODE, for every value of the operands; with the spec's example. -/
def Obligations.BuildReqBuildsTheRequestFrame : Prop :=
  (∀ s : State, ∃ t, exec .buildReq s = .next t ∧
    t.crc = crc16 [s.req.addr, s.req.func, s.req.start.extractLsb' 8 8, s.req.start.extractLsb' 0 8,
      s.req.count.extractLsb' 8 8, s.req.count.extractLsb' 0 8] ∧
    t.tx.toList = [s.req.addr, s.req.func, s.req.start.extractLsb' 8 8, s.req.start.extractLsb' 0 8,
      s.req.count.extractLsb' 8 8, s.req.count.extractLsb' 0 8, t.crc.extractLsb' 0 8,
      t.crc.extractLsb' 8 8] ++ s.tx.toList.drop 8 ∧
    t = { s with tx := t.tx, txLen := 8, crc := t.crc, code := .ok }) ∧
  encode .buildReq = 0x00000010 ∧
  ∀ s : State, s.req = ⟨0x50, 0x03, 0x0030, 0x0006⟩ → ∃ t, exec .buildReq s = .next t ∧
    t.tx.toList.take 8 = [0x50, 0x03, 0x00, 0x30, 0x00, 0x06, 0xC8, 0x46] ∧ t.txLen = 8 ∧ t.crc = 0x46C8

/-- LOAD_VENDOR k copies the four bytes of table entry k, of which the last two are free values of Config
(log 7), keeps the other bytes of TXBUF, and sets TX_LEN and CODE only. -/
def Obligations.LoadVendorCopiesTheTableEntry : Prop :=
  ∀ (s : State) (k : Fin 4), ∃ t, exec (.loadVendor (BitVec.ofNat 8 k)) s = .next t ∧
    t.tx.toList = [0xFF, 0xAA, Config.vendorTail k 0, Config.vendorTail k 1] ++ s.tx.toList.drop 4 ∧
    t = { s with tx := t.tx, txLen := 4, code := .ok } ∧
    encode (.loadVendor (BitVec.ofNat 8 k)) = ((BitVec.ofNat 32 k) <<< 8) ||| 0x11

/-- PARSE of a valid frame completes: header, payload length, CRC and PARSE_OK are recorded, WORD_COUNT and
PHYS_VALID are cleared, and nothing else changes. -/
def Obligations.ParseAcceptsAValidFrame : Prop :=
  ∀ s : State, ValidFrame s → exec .parse s = .next { s with
    wordCount := 0, physValid := 0, parseOk := true,
    resp := ⟨s.rxByte 0, s.rxByte 1, s.rxByte 2, BitVec.ofNat 8 (s.rxLen.toNat - 5)⟩,
    crc := checksumOver s s.rxLen.toNat, code := .ok }

/-- R93: PARSE reports the first error of its list, each with the state it leaves. -/
def Obligations.ParseReportsTheFirstError : Prop :=
  (∀ (v : Word) (s : State), v.extractLsb' 0 8 = 0x20 → v ≠ 0x00000020 →
    runCommand v s = .next { s with code := .illegalCommand }) ∧
  ∀ s : State,
    (s.rxLen.toNat < 5 → exec .parse s = .next { parseCleared s with code := .tooShort }) ∧
    (260 < s.rxLen.toNat → exec .parse s = .next { parseCleared s with code := .frameTooLong }) ∧
    (5 ≤ s.rxLen.toNat → s.rxLen.toNat ≤ 260 → ¬ ChecksumOk s → exec .parse s = .next
      { parseCleared s with crc := checksumOver s s.rxLen.toNat, code := .checksumMismatch }) ∧
    (5 ≤ s.rxLen.toNat → s.rxLen.toNat ≤ 260 → ChecksumOk s →
      (s.rxByte 2).toNat ≠ s.rxLen.toNat - 5 → exec .parse s = .next
      { parseCleared s with crc := checksumOver s s.rxLen.toNat, code := .bytecountMismatch })

/-- PARSE succeeds on exactly the valid frames, and PARSE_OK then says so. -/
def Obligations.ParseSucceedsExactlyOnValidFrames : Prop :=
  ∀ s t : State, exec .parse s = .next t →
    (t.code = .ok ↔ ValidFrame s) ∧ (t.parseOk = true ↔ ValidFrame s)

/-- R92: whatever its outcome, PARSE leaves WORD_COUNT and PHYS_VALID 0. -/
def Obligations.ParseClearsEarlierResults : Prop :=
  ∀ s : State, ∃ t, exec .parse s = .next t ∧ t.wordCount = 0 ∧ t.physValid = 0

/-- Running PARSE again on what it left gives the same state. -/
def Obligations.ParseAgainGivesTheSame : Prop :=
  ∀ s t : State, exec .parse s = .next t → exec .parse t = .next t

/-- PARSE does not look at the request registers, and of the frames with a right checksum, of every length, it
accepts exactly those whose byte-count is RX_LEN - 5, whatever the address and function bytes and whether or
not PAY_LEN is even; so of the five-byte frames those with byte-count 0. -/
def Obligations.ParseChecksNoRequest : Prop :=
  (∀ (s t : State) (r : RequestRegs), exec .parse s = .next t →
    exec .parse { s with req := r } = .next { t with req := r }) ∧
  (∀ s t : State, exec .parse s = .next t → 5 ≤ s.rxLen.toNat → s.rxLen.toNat ≤ 260 → ChecksumOk s →
    ((s.rxByte 2).toNat = s.rxLen.toNat - 5 →
      t.code = .ok ∧ t.parseOk = true ∧ t.resp.payLen.toNat = s.rxLen.toNat - 5) ∧
    ((s.rxByte 2).toNat ≠ s.rxLen.toNat - 5 → t.code = .bytecountMismatch ∧ t.parseOk = false)) ∧
  ∀ s t : State, exec .parse s = .next t → s.rxLen = 5 → ChecksumOk s →
    (s.rxByte 2 = 0 → t.code = .ok ∧ t.resp.payLen = 0) ∧
    (s.rxByte 2 ≠ 0 → t.code = .bytecountMismatch)

/-- Replacing the two checksum bytes of a valid frame by any others makes PARSE report CHECKSUM_MISMATCH, with
the right checksum left in CRC. -/
def Obligations.ChecksumTamperIsReported : Prop :=
  ∀ (s : State) (p q : Byte), ValidFrame s →
    (p ≠ s.rxByte (s.rxLen.toNat - 2) ∨ q ≠ s.rxByte (s.rxLen.toNat - 1)) →
    ∃ t, exec .parse { s with
        rx := (s.rx.setIfInBounds (s.rxLen.toNat - 2) p).setIfInBounds (s.rxLen.toNat - 1) q } = .next t ∧
      t.code = .checksumMismatch ∧ t.parseOk = false ∧ t.crc = checksumOver s s.rxLen.toNat

/-- A response frame made of a header, a payload of at most 255 bytes and its checksum is accepted, and the
payload recorded is the bytes inserted. -/
def Obligations.ParseReturnsTheInsertedPayload : Prop :=
  ∀ (s : State) (addr func : Byte) (payload : List Byte), payload.length ≤ 255 →
    s.rxLen = BitVec.ofNat 9 (payload.length + 5) →
    s.rx.toList.take (payload.length + 5) = responseFrame addr func payload →
      ∃ t, exec .parse s = .next t ∧ t.code = .ok ∧ t.parseOk = true ∧
        t.resp.addr = addr ∧ t.resp.func = func ∧ t.resp.payLen.toNat = payload.length ∧
        (t.rx.toList.drop 3).take t.resp.payLen.toNat = payload

/-- From any state, a host that loads the response frame carrying n words (and any further payload bytes)
through the bus, parses it and decodes n words finds exactly those words, valid, and no error. The host's
accesses stand in the model's own list (DESIGN CHOICE, log 1). -/
def Obligations.LoadParseDecodeRecoversTheWords : Prop :=
  ∀ (s : State) (addr func n : Byte) (ws : List Half) (extra : List Byte) (rest : List BusAccess),
    (n = 3 ∨ n = 6) → ws.length = n.toNat → 2 * n.toNat + extra.length ≤ 255 →
    s.pending = loadRx (responseFrame addr func (wordsPayload ws ++ extra)) ++
      [command .parse, command (.decodeWords n)] ++ rest →
      ∃ t, core.run (2 * n.toNat + extra.length + 8) s = .next t ∧
        t.code = .ok ∧ t.parseOk = true ∧ t.wordCount.toNat = n.toNat ∧ t.pending = rest ∧
        t.resp.addr = addr ∧ t.resp.func = func ∧
        ∀ i : Fin 6, i.val < n.toNat → ws[i.val]? = some t.words[i]

/-! ### The unpacker -/

/-- DECODE_WORDS n on a parsed frame with at least 2n payload bytes completes: the first n WORD registers are
the big-endian payload words, the others are kept, WORD_COUNT is n, PHYS_VALID is 0, nothing else changes. -/
def Obligations.DecodeWordsUnpacksThePayload : Prop :=
  ∀ (s : State) (n : Byte), (n = 3 ∨ n = 6) → s.parseOk = true →
    2 * n.toNat ≤ s.resp.payLen.toNat →
      ∃ t, exec (.decodeWords n) s = .next t ∧
        (∀ i : Fin 6, i.val < n.toNat → (t.words[i]).toNat =
          256 * (s.rxByte (3 + 2 * i)).toNat + (s.rxByte (4 + 2 * i)).toNat) ∧
        (∀ i : Fin 6, n.toNat ≤ i.val → t.words[i] = s.words[i]) ∧
        t = { s with words := t.words, wordCount := n.setWidth 3, physValid := 0, code := .ok }

/-- DECODE_WORDS reports NO_FRAME first, then INSUFFICIENT_PAYLOAD; both clear WORD_COUNT and PHYS_VALID and
keep the WORD registers. -/
def Obligations.DecodeWordsErrorsKeepTheWords : Prop :=
  ∀ (s : State) (n : Byte), (n = 3 ∨ n = 6) →
    (s.parseOk = false → exec (.decodeWords n) s = .next
      { s with wordCount := 0, physValid := 0, code := .noFrame }) ∧
    (s.parseOk = true → s.resp.payLen.toNat < 2 * n.toNat → exec (.decodeWords n) s = .next
      { s with wordCount := 0, physValid := 0, code := .insufficientPayload })

/-- A decoded WORD reads over the bus as the signed value of its two payload bytes: -32768 to 32767, two's
complement (PRESUMED, log 11), sign-extended to 32 bits. -/
def Obligations.DecodedWordsReadSigned : Prop :=
  ∀ (s t : State) (n : Byte) (i : Fin 6), (n = 3 ∨ n = 6) → i.val < n.toNat →
    exec (.decodeWords n) s = .next t → t.code = .ok →
      (readReg (.word i) t).toInt =
        256 * (s.rxByte (3 + 2 * i)).toNat + (s.rxByte (4 + 2 * i)).toNat -
          (if 128 ≤ (s.rxByte (3 + 2 * i)).toNat then 65536 else 0)

/-- DECODE_WORDS n reads no byte of RXBUF but RX[3..3+2n): two buffers equal there give the same result. -/
def Obligations.DecodeWordsReadsOnlyItsPayload : Prop :=
  ∀ (s t : State) (n : Byte) (r : ByteBuffer),
    (∀ i : Fin 260, 3 ≤ i.val → i.val < 3 + 2 * n.toNat → r[i] = s.rx[i]) →
    exec (.decodeWords n) s = .next t →
      exec (.decodeWords n) { s with rx := r } = .next { t with rx := r }

/-- With enough valid words each SCALE command completes and scales its triple: SCALE_ACCEL by the configured
divisor where it is not 0, SCALE_GYRO and SCALE_ANGLE by their fixed scales. -/
def Obligations.ScaleCommandsWriteTheirTriple : Prop :=
  ∀ (s : State) (b : Byte), (b = 0 ∨ b = 3) → b.toNat + 3 ≤ s.wordCount.toNat →
    (s.config.div ≠ 0 →
      ScalesTriple s b (.scaleAccel b) (accel s.config.div s.config.halve)) ∧
    ScalesTriple s b (.scaleGyro b) gyro ∧ ScalesTriple s b (.scaleAngle b) angle

/-- A SCALE command with too few valid words reports WORDS_INVALID, before SCALE_UNSET, which SCALE_ACCEL
reports where ACCEL_DIV is 0; nothing but CODE changes. -/
def Obligations.ScaleErrorsChangeOnlyCode : Prop :=
  ∀ (s : State) (b : Byte), (b = 0 ∨ b = 3) →
    (s.wordCount.toNat < b.toNat + 3 → ∀ i ∈ [Instr.scaleAccel b, .scaleGyro b, .scaleAngle b],
      exec i s = .next { s with code := .wordsInvalid }) ∧
    (b.toNat + 3 ≤ s.wordCount.toNat → s.config.div = 0 →
      exec (.scaleAccel b) s = .next { s with code := .scaleUnset })

/-- The angular-rate and angle scales are exact for every raw word, read as signed (PRESUMED, log 11), in binary64
(PRESUMED, log 8). -/
def Obligations.GyroAndAngleAreExact : Prop :=
  ∀ w : Half, f64Value (gyro w) = (w.toInt : ℚ) * 125 / 2048 ∧
    f64Value (angle w) = (w.toInt : ℚ) * 45 / 8192

/-- For every raw word and divisor the acceleration is the one binary64 value nearest the quotient: every
finite encoding of another value is strictly farther, so no tie arises. The format and what an encoding stands
for are PRESUMED (log 8), and the signed reading of the raw word too (log 11). -/
def Obligations.AccelIsTheNearestBinary64 : Prop :=
  ∀ (div w : Half) (y : F64), div ≠ 0 → f64Finite y → f64Value y ≠ f64Value (accel div false w) →
    |f64Value (accel div false w) - (w.toInt : ℚ) / (div.toNat : ℚ)| <
      |f64Value y - (w.toInt : ℚ) / (div.toNat : ℚ)|

/-- Halving is exact, so the halved acceleration is the value nearest the quotient by twice the divisor
(binary64 and the signed reading of the raw word PRESUMED, logs 8, 11; the halving step DEDUCED, log 16). -/
def Obligations.HalvingIsExact : Prop :=
  ∀ div w : Half, div ≠ 0 →
    f64Value (accel div true w) = f64Value (accel div false w) / 2 ∧
    accel div true w = f64 w.toInt (2 * div.toNat)

/-- No result of a scale is NaN, infinite or subnormal; the raw word 0 gives +0.0, and every other result is
nonzero and has the sign of its raw word (binary64 and that sign PRESUMED, logs 8, 11). -/
def Obligations.ScaleResultsAreOrdinary : Prop :=
  ∀ (div w : Half) (halve : Bool), div ≠ 0 → ∀ x ∈ [accel div halve w, gyro w, angle w],
    (w = 0 → x = 0) ∧ (w ≠ 0 → f64Normal x ∧ (x.msb = true ↔ w.toInt < 0))

/-- The output ranges of the three scales, with the ends reached (binary64 and the signed reading of the raw word
PRESUMED, logs 8, 11). -/
def Obligations.ScaleRanges : Prop :=
  (∀ w : Half, (-2000 : ℚ) ≤ f64Value (gyro w) ∧ f64Value (gyro w) ≤ 1999.93896484375 ∧
    (-180 : ℚ) ≤ f64Value (angle w) ∧ f64Value (angle w) ≤ 179.9945068359375) ∧
  f64Value (gyro 0x8000) = -2000 ∧ f64Value (gyro 0x7FFF) = 1999.93896484375 ∧
  f64Value (angle 0x8000) = -180 ∧ f64Value (angle 0x7FFF) = 179.9945068359375 ∧
  f64Value (accel 2048 false 0x8000) = -16 ∧ f64Value (accel 2048 false 0x7FFF) = 15.99951171875 ∧
  ∀ (div w : Half) (halve : Bool), div ≠ 0 →
    f64Value (accel div halve 0x8000) ≤ f64Value (accel div halve w) ∧
    f64Value (accel div halve w) ≤ f64Value (accel div halve 0x7FFF)

/-- Lanes do not interact: PHYSj and PHYS_VALID bit j after a SCALE command are the same for any other contents
of the other WORD registers. -/
def Obligations.ScaleLanesAreIndependent : Prop :=
  ∀ (s t t' : State) (b : Byte) (u : Vector Half 6) (j : Fin 6),
    ∀ i ∈ [Instr.scaleAccel b, .scaleGyro b, .scaleAngle b],
      exec i s = .next t → exec i { s with words := u } = .next t' → u[j] = s.words[j] →
        t'.phys[j] = t.phys[j] ∧ t'.physValid = t.physValid ∧ t'.code = t.code

/-! ### Control and reset -/

/-- NOP clears CODE and changes nothing else; no other word with its opcode is legal. -/
def Obligations.NopOnlyClearsCode : Prop :=
  (∀ s : State, exec .nop s = .next { s with code := .ok }) ∧ encode .nop = 0x00000000 ∧
  ∀ v : Word, v.extractLsb' 0 8 = 0x00 → v ≠ 0x00000000 → ∃ why, decode v = .illegal why

/-- R130: after SOFT_RESET every register reads as after power-on reset, and the buffers are kept. The host's
two lists are kept too (log 18). -/
def Obligations.SoftResetKeepsOnlyTheBuffers : Prop :=
  ∀ s : State, ∃ t, exec .softReset s = .next t ∧
    (∀ r, isBuffer r = false → readReg r t = readReg r State.reset) ∧
    t.tx = s.tx ∧ t.rx = s.rx ∧ t.pending = s.pending ∧ t.log = s.log

/-- The registers after power-on reset. -/
def Obligations.ResetRegisterValues : Prop :=
  readReg .status State.reset = 0 ∧ readReg .config State.reset = 0 ∧
  readReg .crc State.reset = 0x0000FFFF ∧ readReg .req0 State.reset = 0 ∧
  readReg .req1 State.reset = 0 ∧ readReg .txLen State.reset = 0 ∧ readReg .rxLen State.reset = 0 ∧
  readReg .resp0 State.reset = 0 ∧ readReg .resp1 State.reset = 0 ∧
  ∀ i : Fin 6, readReg (.word i) State.reset = 0 ∧ readReg (.physLo i) State.reset = 0 ∧
    readReg (.physHi i) State.reset = 0

/-- The state after reset meets the invariant. -/
def Obligations.ResetMeetsTheInvariant : Prop := Coherent State.reset

/-- Every step keeps the invariant: the valid flags of STATUS tell the truth about the frame, the words and the
physical values. -/
def Obligations.StepKeepsTheInvariant : Prop :=
  ∀ s t : State, Coherent s → step s = .next t → Coherent t

/-! ### The whole machine -/

/-- Every legal command ends with one of the codes its row lists. -/
def Obligations.CommandsReportOnlyTheirCodes : Prop :=
  ∀ (i : Instr) (s t : State), i.WellFormed = true → exec i s = .next t → t.code ∈ possibleCodes i

/-- No command reads CODE, TXBUF or TX_LEN: with other contents of them it does the same to everything else, and
each byte of TXBUF, and TX_LEN, is kept in both runs or ends with one value in both. -/
def Obligations.NoCommandReadsCodeOrTransmitSide : Prop :=
  (∀ (i : Instr) (s : State) (c : ResultCode), exec i { s with code := c } = exec i s) ∧
  ∀ (i : Instr) (s t : State) (b : ByteBuffer) (n : FrameLen), exec i s = .next t →
    ∃ b' n', exec i { s with tx := b, txLen := n } = .next { t with tx := b', txLen := n' } ∧
      (∀ k : Fin 260, (t.tx[k] = s.tx[k] ∧ b'[k] = b[k]) ∨ b'[k] = t.tx[k]) ∧
      ((t.txLen = s.txLen ∧ n' = n) ∨ n' = t.txLen)

/-- Only a PARSE command makes PARSE_OK 1. The host's accesses stand in the model's own list (DESIGN CHOICE,
log 1). -/
def Obligations.OnlyParseSetsParseOk : Prop :=
  ∀ s t : State, step s = .next t → s.parseOk = false → t.parseOk = true →
    ∃ rest, s.pending = command .parse :: rest

/-- CRC changes only by the commands that write it, by PARSE only for a frame of 5 to 260 bytes, and never by a
host register write. The host's accesses stand in the model's own list (DESIGN CHOICE, log 1). -/
def Obligations.OnlyCrcCommandsChangeCrc : Prop :=
  ∀ s t : State, step s = .next t → t.crc ≠ s.crc →
    ∃ i rest, s.pending = command i :: rest ∧
      (i = .crcInit ∨ (∃ b, i = .crcByte b) ∨ i = .crcRxbuf ∨ i = .buildReq ∨ i = .softReset ∨
        (i = .parse ∧ 5 ≤ s.rxLen.toNat ∧ s.rxLen.toNat ≤ 260))

/-- WORD registers change only by DECODE_WORDS and SOFT_RESET, PHYS registers only by the SCALE commands and
SOFT_RESET, and TXBUF only by BUILD_REQ, LOAD_VENDOR and a host write to one of its bytes. The host's
accesses stand in the model's own list (DESIGN CHOICE, log 1). -/
def Obligations.ResultRegistersHaveTheirWriters : Prop :=
  ∀ s t : State, step s = .next t →
    (t.words ≠ s.words → ∃ i rest, s.pending = command i :: rest ∧
      ((∃ n, i = .decodeWords n) ∨ i = .softReset)) ∧
    (t.phys ≠ s.phys → ∃ i rest, s.pending = command i :: rest ∧
      ((∃ b, i = .scaleAccel b ∨ i = .scaleGyro b ∨ i = .scaleAngle b) ∨ i = .softReset)) ∧
    (t.tx ≠ s.tx →
      (∃ i rest, s.pending = command i :: rest ∧ (i = .buildReq ∨ ∃ k, i = .loadVendor k)) ∨
      ∃ off v rest k, s.pending = .write off 4 v :: rest ∧ regAt off.toNat = .txbuf k)
end

