-- ==== Sys2Proof/Laws/State.lean ====
section
/-! SUPPORT. What each write of one register leaves in each field of the state. -/

namespace Sys2Proof.Machine

variable (s : State)

/-! setCode -/
@[simp] theorem setCode_code (v : ResultCode) : (s.setCode v).code = v := rfl
@[simp] theorem setCode_wordCount (v : ResultCode) : (s.setCode v).wordCount = s.wordCount := rfl
@[simp] theorem setCode_physValid (v : ResultCode) : (s.setCode v).physValid = s.physValid := rfl
@[simp] theorem setCode_parseOk (v : ResultCode) : (s.setCode v).parseOk = s.parseOk := rfl
@[simp] theorem setCode_config (v : ResultCode) : (s.setCode v).config = s.config := rfl
@[simp] theorem setCode_crc (v : ResultCode) : (s.setCode v).crc = s.crc := rfl
@[simp] theorem setCode_req (v : ResultCode) : (s.setCode v).req = s.req := rfl
@[simp] theorem setCode_txLen (v : ResultCode) : (s.setCode v).txLen = s.txLen := rfl
@[simp] theorem setCode_rxLen (v : ResultCode) : (s.setCode v).rxLen = s.rxLen := rfl
@[simp] theorem setCode_resp (v : ResultCode) : (s.setCode v).resp = s.resp := rfl
@[simp] theorem setCode_words (v : ResultCode) : (s.setCode v).words = s.words := rfl
@[simp] theorem setCode_phys (v : ResultCode) : (s.setCode v).phys = s.phys := rfl
@[simp] theorem setCode_tx (v : ResultCode) : (s.setCode v).tx = s.tx := rfl
@[simp] theorem setCode_rx (v : ResultCode) : (s.setCode v).rx = s.rx := rfl
@[simp] theorem setCode_pending (v : ResultCode) : (s.setCode v).pending = s.pending := rfl
@[simp] theorem setCode_log (v : ResultCode) : (s.setCode v).log = s.log := rfl

/-! setWordCount -/
@[simp] theorem setWordCount_code (v : BitVec 3) : (s.setWordCount v).code = s.code := rfl
@[simp] theorem setWordCount_wordCount (v : BitVec 3) : (s.setWordCount v).wordCount = v := rfl
@[simp] theorem setWordCount_physValid (v : BitVec 3) : (s.setWordCount v).physValid = s.physValid := rfl
@[simp] theorem setWordCount_parseOk (v : BitVec 3) : (s.setWordCount v).parseOk = s.parseOk := rfl
@[simp] theorem setWordCount_config (v : BitVec 3) : (s.setWordCount v).config = s.config := rfl
@[simp] theorem setWordCount_crc (v : BitVec 3) : (s.setWordCount v).crc = s.crc := rfl
@[simp] theorem setWordCount_req (v : BitVec 3) : (s.setWordCount v).req = s.req := rfl
@[simp] theorem setWordCount_txLen (v : BitVec 3) : (s.setWordCount v).txLen = s.txLen := rfl
@[simp] theorem setWordCount_rxLen (v : BitVec 3) : (s.setWordCount v).rxLen = s.rxLen := rfl
@[simp] theorem setWordCount_resp (v : BitVec 3) : (s.setWordCount v).resp = s.resp := rfl
@[simp] theorem setWordCount_words (v : BitVec 3) : (s.setWordCount v).words = s.words := rfl
@[simp] theorem setWordCount_phys (v : BitVec 3) : (s.setWordCount v).phys = s.phys := rfl
@[simp] theorem setWordCount_tx (v : BitVec 3) : (s.setWordCount v).tx = s.tx := rfl
@[simp] theorem setWordCount_rx (v : BitVec 3) : (s.setWordCount v).rx = s.rx := rfl
@[simp] theorem setWordCount_pending (v : BitVec 3) : (s.setWordCount v).pending = s.pending := rfl
@[simp] theorem setWordCount_log (v : BitVec 3) : (s.setWordCount v).log = s.log := rfl

/-! setPhysValid -/
@[simp] theorem setPhysValid_code (v : BitVec 6) : (s.setPhysValid v).code = s.code := rfl
@[simp] theorem setPhysValid_wordCount (v : BitVec 6) : (s.setPhysValid v).wordCount = s.wordCount := rfl
@[simp] theorem setPhysValid_physValid (v : BitVec 6) : (s.setPhysValid v).physValid = v := rfl
@[simp] theorem setPhysValid_parseOk (v : BitVec 6) : (s.setPhysValid v).parseOk = s.parseOk := rfl
@[simp] theorem setPhysValid_config (v : BitVec 6) : (s.setPhysValid v).config = s.config := rfl
@[simp] theorem setPhysValid_crc (v : BitVec 6) : (s.setPhysValid v).crc = s.crc := rfl
@[simp] theorem setPhysValid_req (v : BitVec 6) : (s.setPhysValid v).req = s.req := rfl
@[simp] theorem setPhysValid_txLen (v : BitVec 6) : (s.setPhysValid v).txLen = s.txLen := rfl
@[simp] theorem setPhysValid_rxLen (v : BitVec 6) : (s.setPhysValid v).rxLen = s.rxLen := rfl
@[simp] theorem setPhysValid_resp (v : BitVec 6) : (s.setPhysValid v).resp = s.resp := rfl
@[simp] theorem setPhysValid_words (v : BitVec 6) : (s.setPhysValid v).words = s.words := rfl
@[simp] theorem setPhysValid_phys (v : BitVec 6) : (s.setPhysValid v).phys = s.phys := rfl
@[simp] theorem setPhysValid_tx (v : BitVec 6) : (s.setPhysValid v).tx = s.tx := rfl
@[simp] theorem setPhysValid_rx (v : BitVec 6) : (s.setPhysValid v).rx = s.rx := rfl
@[simp] theorem setPhysValid_pending (v : BitVec 6) : (s.setPhysValid v).pending = s.pending := rfl
@[simp] theorem setPhysValid_log (v : BitVec 6) : (s.setPhysValid v).log = s.log := rfl

/-! setParseOk -/
@[simp] theorem setParseOk_code (v : Bool) : (s.setParseOk v).code = s.code := rfl
@[simp] theorem setParseOk_wordCount (v : Bool) : (s.setParseOk v).wordCount = s.wordCount := rfl
@[simp] theorem setParseOk_physValid (v : Bool) : (s.setParseOk v).physValid = s.physValid := rfl
@[simp] theorem setParseOk_parseOk (v : Bool) : (s.setParseOk v).parseOk = v := rfl
@[simp] theorem setParseOk_config (v : Bool) : (s.setParseOk v).config = s.config := rfl
@[simp] theorem setParseOk_crc (v : Bool) : (s.setParseOk v).crc = s.crc := rfl
@[simp] theorem setParseOk_req (v : Bool) : (s.setParseOk v).req = s.req := rfl
@[simp] theorem setParseOk_txLen (v : Bool) : (s.setParseOk v).txLen = s.txLen := rfl
@[simp] theorem setParseOk_rxLen (v : Bool) : (s.setParseOk v).rxLen = s.rxLen := rfl
@[simp] theorem setParseOk_resp (v : Bool) : (s.setParseOk v).resp = s.resp := rfl
@[simp] theorem setParseOk_words (v : Bool) : (s.setParseOk v).words = s.words := rfl
@[simp] theorem setParseOk_phys (v : Bool) : (s.setParseOk v).phys = s.phys := rfl
@[simp] theorem setParseOk_tx (v : Bool) : (s.setParseOk v).tx = s.tx := rfl
@[simp] theorem setParseOk_rx (v : Bool) : (s.setParseOk v).rx = s.rx := rfl
@[simp] theorem setParseOk_pending (v : Bool) : (s.setParseOk v).pending = s.pending := rfl
@[simp] theorem setParseOk_log (v : Bool) : (s.setParseOk v).log = s.log := rfl

/-! setConfig -/
@[simp] theorem setConfig_code (v : AccelConfig) : (s.setConfig v).code = s.code := rfl
@[simp] theorem setConfig_wordCount (v : AccelConfig) : (s.setConfig v).wordCount = s.wordCount := rfl
@[simp] theorem setConfig_physValid (v : AccelConfig) : (s.setConfig v).physValid = s.physValid := rfl
@[simp] theorem setConfig_parseOk (v : AccelConfig) : (s.setConfig v).parseOk = s.parseOk := rfl
@[simp] theorem setConfig_config (v : AccelConfig) : (s.setConfig v).config = v := rfl
@[simp] theorem setConfig_crc (v : AccelConfig) : (s.setConfig v).crc = s.crc := rfl
@[simp] theorem setConfig_req (v : AccelConfig) : (s.setConfig v).req = s.req := rfl
@[simp] theorem setConfig_txLen (v : AccelConfig) : (s.setConfig v).txLen = s.txLen := rfl
@[simp] theorem setConfig_rxLen (v : AccelConfig) : (s.setConfig v).rxLen = s.rxLen := rfl
@[simp] theorem setConfig_resp (v : AccelConfig) : (s.setConfig v).resp = s.resp := rfl
@[simp] theorem setConfig_words (v : AccelConfig) : (s.setConfig v).words = s.words := rfl
@[simp] theorem setConfig_phys (v : AccelConfig) : (s.setConfig v).phys = s.phys := rfl
@[simp] theorem setConfig_tx (v : AccelConfig) : (s.setConfig v).tx = s.tx := rfl
@[simp] theorem setConfig_rx (v : AccelConfig) : (s.setConfig v).rx = s.rx := rfl
@[simp] theorem setConfig_pending (v : AccelConfig) : (s.setConfig v).pending = s.pending := rfl
@[simp] theorem setConfig_log (v : AccelConfig) : (s.setConfig v).log = s.log := rfl

/-! setCrc -/
@[simp] theorem setCrc_code (v : Half) : (s.setCrc v).code = s.code := rfl
@[simp] theorem setCrc_wordCount (v : Half) : (s.setCrc v).wordCount = s.wordCount := rfl
@[simp] theorem setCrc_physValid (v : Half) : (s.setCrc v).physValid = s.physValid := rfl
@[simp] theorem setCrc_parseOk (v : Half) : (s.setCrc v).parseOk = s.parseOk := rfl
@[simp] theorem setCrc_config (v : Half) : (s.setCrc v).config = s.config := rfl
@[simp] theorem setCrc_crc (v : Half) : (s.setCrc v).crc = v := rfl
@[simp] theorem setCrc_req (v : Half) : (s.setCrc v).req = s.req := rfl
@[simp] theorem setCrc_txLen (v : Half) : (s.setCrc v).txLen = s.txLen := rfl
@[simp] theorem setCrc_rxLen (v : Half) : (s.setCrc v).rxLen = s.rxLen := rfl
@[simp] theorem setCrc_resp (v : Half) : (s.setCrc v).resp = s.resp := rfl
@[simp] theorem setCrc_words (v : Half) : (s.setCrc v).words = s.words := rfl
@[simp] theorem setCrc_phys (v : Half) : (s.setCrc v).phys = s.phys := rfl
@[simp] theorem setCrc_tx (v : Half) : (s.setCrc v).tx = s.tx := rfl
@[simp] theorem setCrc_rx (v : Half) : (s.setCrc v).rx = s.rx := rfl
@[simp] theorem setCrc_pending (v : Half) : (s.setCrc v).pending = s.pending := rfl
@[simp] theorem setCrc_log (v : Half) : (s.setCrc v).log = s.log := rfl

/-! setReq -/
@[simp] theorem setReq_code (v : RequestRegs) : (s.setReq v).code = s.code := rfl
@[simp] theorem setReq_wordCount (v : RequestRegs) : (s.setReq v).wordCount = s.wordCount := rfl
@[simp] theorem setReq_physValid (v : RequestRegs) : (s.setReq v).physValid = s.physValid := rfl
@[simp] theorem setReq_parseOk (v : RequestRegs) : (s.setReq v).parseOk = s.parseOk := rfl
@[simp] theorem setReq_config (v : RequestRegs) : (s.setReq v).config = s.config := rfl
@[simp] theorem setReq_crc (v : RequestRegs) : (s.setReq v).crc = s.crc := rfl
@[simp] theorem setReq_req (v : RequestRegs) : (s.setReq v).req = v := rfl
@[simp] theorem setReq_txLen (v : RequestRegs) : (s.setReq v).txLen = s.txLen := rfl
@[simp] theorem setReq_rxLen (v : RequestRegs) : (s.setReq v).rxLen = s.rxLen := rfl
@[simp] theorem setReq_resp (v : RequestRegs) : (s.setReq v).resp = s.resp := rfl
@[simp] theorem setReq_words (v : RequestRegs) : (s.setReq v).words = s.words := rfl
@[simp] theorem setReq_phys (v : RequestRegs) : (s.setReq v).phys = s.phys := rfl
@[simp] theorem setReq_tx (v : RequestRegs) : (s.setReq v).tx = s.tx := rfl
@[simp] theorem setReq_rx (v : RequestRegs) : (s.setReq v).rx = s.rx := rfl
@[simp] theorem setReq_pending (v : RequestRegs) : (s.setReq v).pending = s.pending := rfl
@[simp] theorem setReq_log (v : RequestRegs) : (s.setReq v).log = s.log := rfl

/-! setTxLen -/
@[simp] theorem setTxLen_code (v : FrameLen) : (s.setTxLen v).code = s.code := rfl
@[simp] theorem setTxLen_wordCount (v : FrameLen) : (s.setTxLen v).wordCount = s.wordCount := rfl
@[simp] theorem setTxLen_physValid (v : FrameLen) : (s.setTxLen v).physValid = s.physValid := rfl
@[simp] theorem setTxLen_parseOk (v : FrameLen) : (s.setTxLen v).parseOk = s.parseOk := rfl
@[simp] theorem setTxLen_config (v : FrameLen) : (s.setTxLen v).config = s.config := rfl
@[simp] theorem setTxLen_crc (v : FrameLen) : (s.setTxLen v).crc = s.crc := rfl
@[simp] theorem setTxLen_req (v : FrameLen) : (s.setTxLen v).req = s.req := rfl
@[simp] theorem setTxLen_txLen (v : FrameLen) : (s.setTxLen v).txLen = v := rfl
@[simp] theorem setTxLen_rxLen (v : FrameLen) : (s.setTxLen v).rxLen = s.rxLen := rfl
@[simp] theorem setTxLen_resp (v : FrameLen) : (s.setTxLen v).resp = s.resp := rfl
@[simp] theorem setTxLen_words (v : FrameLen) : (s.setTxLen v).words = s.words := rfl
@[simp] theorem setTxLen_phys (v : FrameLen) : (s.setTxLen v).phys = s.phys := rfl
@[simp] theorem setTxLen_tx (v : FrameLen) : (s.setTxLen v).tx = s.tx := rfl
@[simp] theorem setTxLen_rx (v : FrameLen) : (s.setTxLen v).rx = s.rx := rfl
@[simp] theorem setTxLen_pending (v : FrameLen) : (s.setTxLen v).pending = s.pending := rfl
@[simp] theorem setTxLen_log (v : FrameLen) : (s.setTxLen v).log = s.log := rfl

/-! setRxLen -/
@[simp] theorem setRxLen_code (v : FrameLen) : (s.setRxLen v).code = s.code := rfl
@[simp] theorem setRxLen_wordCount (v : FrameLen) : (s.setRxLen v).wordCount = s.wordCount := rfl
@[simp] theorem setRxLen_physValid (v : FrameLen) : (s.setRxLen v).physValid = s.physValid := rfl
@[simp] theorem setRxLen_parseOk (v : FrameLen) : (s.setRxLen v).parseOk = s.parseOk := rfl
@[simp] theorem setRxLen_config (v : FrameLen) : (s.setRxLen v).config = s.config := rfl
@[simp] theorem setRxLen_crc (v : FrameLen) : (s.setRxLen v).crc = s.crc := rfl
@[simp] theorem setRxLen_req (v : FrameLen) : (s.setRxLen v).req = s.req := rfl
@[simp] theorem setRxLen_txLen (v : FrameLen) : (s.setRxLen v).txLen = s.txLen := rfl
@[simp] theorem setRxLen_rxLen (v : FrameLen) : (s.setRxLen v).rxLen = v := rfl
@[simp] theorem setRxLen_resp (v : FrameLen) : (s.setRxLen v).resp = s.resp := rfl
@[simp] theorem setRxLen_words (v : FrameLen) : (s.setRxLen v).words = s.words := rfl
@[simp] theorem setRxLen_phys (v : FrameLen) : (s.setRxLen v).phys = s.phys := rfl
@[simp] theorem setRxLen_tx (v : FrameLen) : (s.setRxLen v).tx = s.tx := rfl
@[simp] theorem setRxLen_rx (v : FrameLen) : (s.setRxLen v).rx = s.rx := rfl
@[simp] theorem setRxLen_pending (v : FrameLen) : (s.setRxLen v).pending = s.pending := rfl
@[simp] theorem setRxLen_log (v : FrameLen) : (s.setRxLen v).log = s.log := rfl

/-! setResp -/
@[simp] theorem setResp_code (v : ResponseRegs) : (s.setResp v).code = s.code := rfl
@[simp] theorem setResp_wordCount (v : ResponseRegs) : (s.setResp v).wordCount = s.wordCount := rfl
@[simp] theorem setResp_physValid (v : ResponseRegs) : (s.setResp v).physValid = s.physValid := rfl
@[simp] theorem setResp_parseOk (v : ResponseRegs) : (s.setResp v).parseOk = s.parseOk := rfl
@[simp] theorem setResp_config (v : ResponseRegs) : (s.setResp v).config = s.config := rfl
@[simp] theorem setResp_crc (v : ResponseRegs) : (s.setResp v).crc = s.crc := rfl
@[simp] theorem setResp_req (v : ResponseRegs) : (s.setResp v).req = s.req := rfl
@[simp] theorem setResp_txLen (v : ResponseRegs) : (s.setResp v).txLen = s.txLen := rfl
@[simp] theorem setResp_rxLen (v : ResponseRegs) : (s.setResp v).rxLen = s.rxLen := rfl
@[simp] theorem setResp_resp (v : ResponseRegs) : (s.setResp v).resp = v := rfl
@[simp] theorem setResp_words (v : ResponseRegs) : (s.setResp v).words = s.words := rfl
@[simp] theorem setResp_phys (v : ResponseRegs) : (s.setResp v).phys = s.phys := rfl
@[simp] theorem setResp_tx (v : ResponseRegs) : (s.setResp v).tx = s.tx := rfl
@[simp] theorem setResp_rx (v : ResponseRegs) : (s.setResp v).rx = s.rx := rfl
@[simp] theorem setResp_pending (v : ResponseRegs) : (s.setResp v).pending = s.pending := rfl
@[simp] theorem setResp_log (v : ResponseRegs) : (s.setResp v).log = s.log := rfl

/-! setWords -/
@[simp] theorem setWords_code (v : Vector Half 6) : (s.setWords v).code = s.code := rfl
@[simp] theorem setWords_wordCount (v : Vector Half 6) : (s.setWords v).wordCount = s.wordCount := rfl
@[simp] theorem setWords_physValid (v : Vector Half 6) : (s.setWords v).physValid = s.physValid := rfl
@[simp] theorem setWords_parseOk (v : Vector Half 6) : (s.setWords v).parseOk = s.parseOk := rfl
@[simp] theorem setWords_config (v : Vector Half 6) : (s.setWords v).config = s.config := rfl
@[simp] theorem setWords_crc (v : Vector Half 6) : (s.setWords v).crc = s.crc := rfl
@[simp] theorem setWords_req (v : Vector Half 6) : (s.setWords v).req = s.req := rfl
@[simp] theorem setWords_txLen (v : Vector Half 6) : (s.setWords v).txLen = s.txLen := rfl
@[simp] theorem setWords_rxLen (v : Vector Half 6) : (s.setWords v).rxLen = s.rxLen := rfl
@[simp] theorem setWords_resp (v : Vector Half 6) : (s.setWords v).resp = s.resp := rfl
@[simp] theorem setWords_words (v : Vector Half 6) : (s.setWords v).words = v := rfl
@[simp] theorem setWords_phys (v : Vector Half 6) : (s.setWords v).phys = s.phys := rfl
@[simp] theorem setWords_tx (v : Vector Half 6) : (s.setWords v).tx = s.tx := rfl
@[simp] theorem setWords_rx (v : Vector Half 6) : (s.setWords v).rx = s.rx := rfl
@[simp] theorem setWords_pending (v : Vector Half 6) : (s.setWords v).pending = s.pending := rfl
@[simp] theorem setWords_log (v : Vector Half 6) : (s.setWords v).log = s.log := rfl

/-! setPhys -/
@[simp] theorem setPhys_code (v : Vector F64 6) : (s.setPhys v).code = s.code := rfl
@[simp] theorem setPhys_wordCount (v : Vector F64 6) : (s.setPhys v).wordCount = s.wordCount := rfl
@[simp] theorem setPhys_physValid (v : Vector F64 6) : (s.setPhys v).physValid = s.physValid := rfl
@[simp] theorem setPhys_parseOk (v : Vector F64 6) : (s.setPhys v).parseOk = s.parseOk := rfl
@[simp] theorem setPhys_config (v : Vector F64 6) : (s.setPhys v).config = s.config := rfl
@[simp] theorem setPhys_crc (v : Vector F64 6) : (s.setPhys v).crc = s.crc := rfl
@[simp] theorem setPhys_req (v : Vector F64 6) : (s.setPhys v).req = s.req := rfl
@[simp] theorem setPhys_txLen (v : Vector F64 6) : (s.setPhys v).txLen = s.txLen := rfl
@[simp] theorem setPhys_rxLen (v : Vector F64 6) : (s.setPhys v).rxLen = s.rxLen := rfl
@[simp] theorem setPhys_resp (v : Vector F64 6) : (s.setPhys v).resp = s.resp := rfl
@[simp] theorem setPhys_words (v : Vector F64 6) : (s.setPhys v).words = s.words := rfl
@[simp] theorem setPhys_phys (v : Vector F64 6) : (s.setPhys v).phys = v := rfl
@[simp] theorem setPhys_tx (v : Vector F64 6) : (s.setPhys v).tx = s.tx := rfl
@[simp] theorem setPhys_rx (v : Vector F64 6) : (s.setPhys v).rx = s.rx := rfl
@[simp] theorem setPhys_pending (v : Vector F64 6) : (s.setPhys v).pending = s.pending := rfl
@[simp] theorem setPhys_log (v : Vector F64 6) : (s.setPhys v).log = s.log := rfl

/-! setTx -/
@[simp] theorem setTx_code (v : ByteBuffer) : (s.setTx v).code = s.code := rfl
@[simp] theorem setTx_wordCount (v : ByteBuffer) : (s.setTx v).wordCount = s.wordCount := rfl
@[simp] theorem setTx_physValid (v : ByteBuffer) : (s.setTx v).physValid = s.physValid := rfl
@[simp] theorem setTx_parseOk (v : ByteBuffer) : (s.setTx v).parseOk = s.parseOk := rfl
@[simp] theorem setTx_config (v : ByteBuffer) : (s.setTx v).config = s.config := rfl
@[simp] theorem setTx_crc (v : ByteBuffer) : (s.setTx v).crc = s.crc := rfl
@[simp] theorem setTx_req (v : ByteBuffer) : (s.setTx v).req = s.req := rfl
@[simp] theorem setTx_txLen (v : ByteBuffer) : (s.setTx v).txLen = s.txLen := rfl
@[simp] theorem setTx_rxLen (v : ByteBuffer) : (s.setTx v).rxLen = s.rxLen := rfl
@[simp] theorem setTx_resp (v : ByteBuffer) : (s.setTx v).resp = s.resp := rfl
@[simp] theorem setTx_words (v : ByteBuffer) : (s.setTx v).words = s.words := rfl
@[simp] theorem setTx_phys (v : ByteBuffer) : (s.setTx v).phys = s.phys := rfl
@[simp] theorem setTx_tx (v : ByteBuffer) : (s.setTx v).tx = v := rfl
@[simp] theorem setTx_rx (v : ByteBuffer) : (s.setTx v).rx = s.rx := rfl
@[simp] theorem setTx_pending (v : ByteBuffer) : (s.setTx v).pending = s.pending := rfl
@[simp] theorem setTx_log (v : ByteBuffer) : (s.setTx v).log = s.log := rfl

/-! setRx -/
@[simp] theorem setRx_code (v : ByteBuffer) : (s.setRx v).code = s.code := rfl
@[simp] theorem setRx_wordCount (v : ByteBuffer) : (s.setRx v).wordCount = s.wordCount := rfl
@[simp] theorem setRx_physValid (v : ByteBuffer) : (s.setRx v).physValid = s.physValid := rfl
@[simp] theorem setRx_parseOk (v : ByteBuffer) : (s.setRx v).parseOk = s.parseOk := rfl
@[simp] theorem setRx_config (v : ByteBuffer) : (s.setRx v).config = s.config := rfl
@[simp] theorem setRx_crc (v : ByteBuffer) : (s.setRx v).crc = s.crc := rfl
@[simp] theorem setRx_req (v : ByteBuffer) : (s.setRx v).req = s.req := rfl
@[simp] theorem setRx_txLen (v : ByteBuffer) : (s.setRx v).txLen = s.txLen := rfl
@[simp] theorem setRx_rxLen (v : ByteBuffer) : (s.setRx v).rxLen = s.rxLen := rfl
@[simp] theorem setRx_resp (v : ByteBuffer) : (s.setRx v).resp = s.resp := rfl
@[simp] theorem setRx_words (v : ByteBuffer) : (s.setRx v).words = s.words := rfl
@[simp] theorem setRx_phys (v : ByteBuffer) : (s.setRx v).phys = s.phys := rfl
@[simp] theorem setRx_tx (v : ByteBuffer) : (s.setRx v).tx = s.tx := rfl
@[simp] theorem setRx_rx (v : ByteBuffer) : (s.setRx v).rx = v := rfl
@[simp] theorem setRx_pending (v : ByteBuffer) : (s.setRx v).pending = s.pending := rfl
@[simp] theorem setRx_log (v : ByteBuffer) : (s.setRx v).log = s.log := rfl

/-! setPending -/
@[simp] theorem setPending_code (v : List BusAccess) : (s.setPending v).code = s.code := rfl
@[simp] theorem setPending_wordCount (v : List BusAccess) : (s.setPending v).wordCount = s.wordCount := rfl
@[simp] theorem setPending_physValid (v : List BusAccess) : (s.setPending v).physValid = s.physValid := rfl
@[simp] theorem setPending_parseOk (v : List BusAccess) : (s.setPending v).parseOk = s.parseOk := rfl
@[simp] theorem setPending_config (v : List BusAccess) : (s.setPending v).config = s.config := rfl
@[simp] theorem setPending_crc (v : List BusAccess) : (s.setPending v).crc = s.crc := rfl
@[simp] theorem setPending_req (v : List BusAccess) : (s.setPending v).req = s.req := rfl
@[simp] theorem setPending_txLen (v : List BusAccess) : (s.setPending v).txLen = s.txLen := rfl
@[simp] theorem setPending_rxLen (v : List BusAccess) : (s.setPending v).rxLen = s.rxLen := rfl
@[simp] theorem setPending_resp (v : List BusAccess) : (s.setPending v).resp = s.resp := rfl
@[simp] theorem setPending_words (v : List BusAccess) : (s.setPending v).words = s.words := rfl
@[simp] theorem setPending_phys (v : List BusAccess) : (s.setPending v).phys = s.phys := rfl
@[simp] theorem setPending_tx (v : List BusAccess) : (s.setPending v).tx = s.tx := rfl
@[simp] theorem setPending_rx (v : List BusAccess) : (s.setPending v).rx = s.rx := rfl
@[simp] theorem setPending_pending (v : List BusAccess) : (s.setPending v).pending = v := rfl
@[simp] theorem setPending_log (v : List BusAccess) : (s.setPending v).log = s.log := rfl

/-! respond -/
@[simp] theorem respond_code (r : BusResponse) : (s.respond r).code = s.code := rfl
@[simp] theorem respond_wordCount (r : BusResponse) : (s.respond r).wordCount = s.wordCount := rfl
@[simp] theorem respond_physValid (r : BusResponse) : (s.respond r).physValid = s.physValid := rfl
@[simp] theorem respond_parseOk (r : BusResponse) : (s.respond r).parseOk = s.parseOk := rfl
@[simp] theorem respond_config (r : BusResponse) : (s.respond r).config = s.config := rfl
@[simp] theorem respond_crc (r : BusResponse) : (s.respond r).crc = s.crc := rfl
@[simp] theorem respond_req (r : BusResponse) : (s.respond r).req = s.req := rfl
@[simp] theorem respond_txLen (r : BusResponse) : (s.respond r).txLen = s.txLen := rfl
@[simp] theorem respond_rxLen (r : BusResponse) : (s.respond r).rxLen = s.rxLen := rfl
@[simp] theorem respond_resp (r : BusResponse) : (s.respond r).resp = s.resp := rfl
@[simp] theorem respond_words (r : BusResponse) : (s.respond r).words = s.words := rfl
@[simp] theorem respond_phys (r : BusResponse) : (s.respond r).phys = s.phys := rfl
@[simp] theorem respond_tx (r : BusResponse) : (s.respond r).tx = s.tx := rfl
@[simp] theorem respond_rx (r : BusResponse) : (s.respond r).rx = s.rx := rfl
@[simp] theorem respond_pending (r : BusResponse) : (s.respond r).pending = s.pending := rfl
@[simp] theorem respond_log (r : BusResponse) : (s.respond r).log = r :: s.log := rfl

end Sys2Proof.Machine
end

