-- ==== Sys2Proof/Laws/Ops.lean ====
section
/-! SUPPORT. What the shared operations do, once each: ending a command, storing a run of entries, reading
the receive buffer, the register map and a host write of a register. -/

namespace Sys2Proof.Machine

/-! ### Ending a command -/

@[simp] theorem raise_eq_next {c : ResultCode} {s t : State} : raise c s = .next t ↔ t = s.setCode c := by
  simp [raise, eq_comm]

@[simp] theorem finish_eq_next {s t : State} : finish s = .next t ↔ t = s.setCode .ok := by
  simp [finish, eq_comm]

/-! ### Runs of entries -/

theorem storeAt_getElem {α : Type} {n : Nat} (xs : List α) (v : Vector α n) (i j : Nat) (hj : j < n) :
    (storeAt v i xs)[j] = if h : i ≤ j ∧ j < i + xs.length then xs[j - i]'(by omega) else v[j] := by
  induction xs generalizing v i with
  | nil => simp [storeAt]
  | cons x xs ih =>
    rw [storeAt, ih]
    by_cases hij : i = j
    · subst hij; simp
    · by_cases h : i + 1 ≤ j ∧ j < i + 1 + xs.length
      · obtain ⟨k, rfl⟩ : ∃ k, j = i + 1 + k := ⟨j - (i + 1), by omega⟩
        have h1 : i + 1 + k - i = k + 1 := by omega
        have h2 : k < xs.length := by omega
        have h3 : i + 1 + k < i + (xs.length + 1) := by omega
        have h4 : i ≤ i + 1 + k := by omega
        simp [h1, h2, h3, h4]
      · have h' : ¬ (i ≤ j ∧ j < i + (x :: xs).length) := by
          simp only [List.length_cons]; omega
        simp only [h, h', dite_false]
        exact Vector.getElem_setIfInBounds_ne hj (by omega)

/-- An entry outside the run is kept. -/
theorem storeAt_outside {α : Type} {n : Nat} (xs : List α) (v : Vector α n) (i j : Nat) (hj : j < n)
    (h : j < i ∨ i + xs.length ≤ j) : (storeAt v i xs)[j] = v[j] := by
  rw [storeAt_getElem, dif_neg (by omega)]

/-- An entry of the run is the one stored. -/
theorem storeAt_inside {α : Type} {n : Nat} (xs : List α) (v : Vector α n) (i j : Nat) (hj : i + j < n)
    (h : j < xs.length) : (storeAt v i xs)[i + j] = xs[j] := by
  rw [storeAt_getElem, dif_pos (by omega)]
  simp

/-- What is stored does not depend on what was there: in two vectors an entry is kept in both, or is the same
in both. -/
theorem storeAt_kept_or_same {α : Type} {n : Nat} (xs : List α) (v w : Vector α n) (i j : Nat) (hj : j < n) :
    ((storeAt v i xs)[j] = v[j] ∧ (storeAt w i xs)[j] = w[j]) ∨
      (storeAt w i xs)[j] = (storeAt v i xs)[j] := by
  simp only [storeAt_getElem]
  by_cases h : i ≤ j ∧ j < i + xs.length
  · exact .inr (by rw [dif_pos h, dif_pos h])
  · exact .inl ⟨dif_neg h, dif_neg h⟩

@[simp] theorem bufferOf_getElem (f : Nat → Byte) (i : Nat) (h : i < 260) : (bufferOf f)[i] = f i := by
  simp [bufferOf]

/-! ### The receive buffer -/

theorem rxByte_eq (s : State) {i : Nat} (h : i < 260) : s.rxByte i = s.rx[i] := by
  simp [State.rxByte, h]

/-- Reading RXBUF depends on RXBUF only. -/
theorem rxByte_congr {s t : State} (h : s.rx = t.rx) (i : Nat) : s.rxByte i = t.rxByte i := by
  simp [State.rxByte, h]

theorem rxFrame_congr {s t : State} (h : s.rx = t.rx) (j : Nat) : s.rxFrame j = t.rxFrame j := by
  simp [State.rxFrame, h]

theorem rxFrame_length (s : State) {j : Nat} (h : j ≤ 260) : (s.rxFrame j).length = j := by
  simp [State.rxFrame, h]

/-! ### The register map (10_state.md R19) -/

theorem regAt_cmd : regAt 0 = .cmd := rfl

theorem controlReg_eq_cmd {off : Nat} : controlReg off = .cmd ↔ off = 0 := by
  unfold controlReg
  split <;> simp_all

theorem regAt_eq_cmd {off : Nat} : regAt off = .cmd ↔ off = 0 := by
  unfold regAt
  split
  · exact controlReg_eq_cmd
  · have h0 : off ≠ 0 := by omega
    split
    · simp [h0]
    split
    · split <;> simp [h0]
    split
    · simp [h0]
    split <;> simp [h0]

theorem regAt_txbuf (i : Fin 260) : regAt (0x400 + 4 * i.val) = .txbuf i := by
  have hi := i.isLt
  unfold regAt
  rw [if_neg (by omega), dif_neg (by omega), dif_neg (by omega), dif_pos (by omega)]
  simp

theorem regAt_rxbuf (i : Fin 260) : regAt (0x1000 + 4 * i.val) = .rxbuf i := by
  have hi := i.isLt
  unfold regAt
  rw [if_neg (by omega), dif_neg (by omega), dif_neg (by omega), dif_neg (by omega),
    dif_pos (by omega)]
  simp

/-! ### A host write of a register -/

section
variable (r : BlockReg) (v : Word) (s : State)

@[simp] theorem writeReg_code : (writeReg r v s).code = s.code := by cases r <;> rfl
@[simp] theorem writeReg_wordCount : (writeReg r v s).wordCount = s.wordCount := by cases r <;> rfl
@[simp] theorem writeReg_physValid : (writeReg r v s).physValid = s.physValid := by cases r <;> rfl
@[simp] theorem writeReg_crc : (writeReg r v s).crc = s.crc := by cases r <;> rfl
@[simp] theorem writeReg_resp : (writeReg r v s).resp = s.resp := by cases r <;> rfl
@[simp] theorem writeReg_words : (writeReg r v s).words = s.words := by cases r <;> rfl
@[simp] theorem writeReg_phys : (writeReg r v s).phys = s.phys := by cases r <;> rfl
@[simp] theorem writeReg_pending : (writeReg r v s).pending = s.pending := by cases r <;> rfl
@[simp] theorem writeReg_log : (writeReg r v s).log = s.log := by cases r <;> rfl

/-- A write either reaches the receive side, and PARSE_OK is then 0, or leaves RXBUF, RX_LEN and PARSE_OK
alone (10_state.md R25). -/
theorem writeReg_receive : (writeReg r v s).parseOk = false ∨
    (writeReg r v s).parseOk = s.parseOk ∧ (writeReg r v s).rx = s.rx ∧
      (writeReg r v s).rxLen = s.rxLen := by
  cases r <;> simp [writeReg]

end

end Sys2Proof.Machine
end

