-- ==== Sys2Proof/Laws/Bus.lean ====
section
/-! SUPPORT. Everything one step can do. -/

namespace Sys2Proof.Machine

variable {s t : State}

theorem step_idle (h : s.pending = []) : step s = .next s := by
  simp [step, nextAccess, h]

theorem step_access {a : BusAccess} {rest : List BusAccess} (h : s.pending = a :: rest) :
    step s = busAccess a (s.setPending rest) := by
  simp [step, nextAccess, h]

/-- What a command word does: a legal one is executed, an illegal one reports ILLEGAL_COMMAND
(43_control.md R110). -/
theorem runCommand_cases {v : Word} (h : runCommand v s = .next t) :
    (∃ i, decode v = .command i ∧ exec i s = .next t) ∨
    (∃ why, decode v = .illegal why ∧ t = s.setCode .illegalCommand) := by
  unfold runCommand at h
  split at h
  · exact .inl ⟨_, ‹_›, h⟩
  · exact .inr ⟨_, ‹_›, by simpa using h⟩

/-- What an access does: a read, a bus error, a register write, or a command (20_memory.md R45 to R49). -/
theorem busAccess_cases {a : BusAccess} (h : busAccess a s = .next t) :
    (∃ off, a = .read off 4 ∧ accepts off 4 = true ∧
      t = s.respond (.data (readReg (regAt off.toNat) s))) ∨
    ((∃ off size, (a = .read off size ∨ ∃ v, a = .write off size v) ∧ accepts off size = false) ∧
      t = s.respond .busError) ∨
    (∃ off v, a = .write off 4 v ∧ accepts off 4 = true ∧ regAt off.toNat ≠ .cmd ∧
      t = writeReg (regAt off.toNat) v (s.respond .done)) ∨
    (∃ v, a = .write 0 4 v ∧ runCommand v (s.respond .done) = .next t) := by
  cases a with
  | read off size =>
    by_cases hacc : accepts off size = true
    · obtain rfl : size = 4 := by simp [accepts] at hacc; exact hacc.1
      simp only [busAccess, hacc, if_true, Host.Outcome.next.injEq] at h
      exact .inl ⟨off, rfl, hacc, h.symm⟩
    · simp only [busAccess, hacc, Bool.false_eq_true, if_false, Host.Outcome.next.injEq] at h
      exact .inr (.inl ⟨⟨off, size, .inl rfl, by simpa using hacc⟩, h.symm⟩)
  | write off size v =>
    by_cases hacc : accepts off size = true
    · obtain rfl : size = 4 := by simp [accepts] at hacc; exact hacc.1
      simp only [busAccess, hacc, if_true, hostWrite] at h
      split at h
      · obtain rfl : off = 0 := BitVec.eq_of_toNat_eq (by simpa using regAt_eq_cmd.1 ‹_›)
        exact .inr (.inr (.inr ⟨v, rfl, h⟩))
      · rename_i hne
        simp only [Host.Outcome.next.injEq] at h
        exact .inr (.inr (.inl ⟨off, v, rfl, hacc, hne, h.symm⟩))
    · simp only [busAccess, hacc, Bool.false_eq_true, if_false, Host.Outcome.next.injEq] at h
      exact .inr (.inl ⟨⟨off, size, .inr ⟨v, rfl⟩, by simpa using hacc⟩, h.symm⟩)

/-- One step: nothing where the host issues nothing, else its next access. -/
theorem step_cases (h : step s = .next t) :
    (s.pending = [] ∧ t = s) ∨
    (∃ a rest, s.pending = a :: rest ∧ busAccess a (s.setPending rest) = .next t) := by
  cases hp : s.pending with
  | nil => rw [step_idle hp] at h; exact .inl ⟨rfl, by simpa using h.symm⟩
  | cons a rest => rw [step_access hp] at h; exact .inr ⟨a, rest, rfl, h⟩

end Sys2Proof.Machine
end

