-- ==== Sys2Proof/Laws/Decode.lean ====
section
/-! SUPPORT. The fields of a command word, and what a decoded word says about them. -/

namespace Sys2Proof

theorem rsvField_commandWord (opd opc : Byte) : rsvField (commandWord opd opc) = 0 := by
  ext i h
  simp [rsvField, commandWord, BitVec.getLsbD_of_ge opd (16 + i - 8) (by omega),
    BitVec.getLsbD_of_ge opc (16 + i) (by omega)]

theorem opdField_commandWord (opd opc : Byte) : opdField (commandWord opd opc) = opd := by
  ext i h
  simp [opdField, commandWord, h, show 8 + i < 32 by omega]

theorem opcField_commandWord (opd opc : Byte) : opcField (commandWord opd opc) = opc := by
  ext i h
  simp [opcField, commandWord, h, show i < 32 by omega]

/-- A word with RSV = 0 is the command word of its two other fields. -/
theorem word_eq_commandWord {v : Word} (h : rsvField v = 0) :
    v = commandWord (opdField v) (opcField v) := by
  ext i hi
  have hr : ∀ j, j < 16 → v.getLsbD (16 + j) = false := by
    intro j hj
    have := congrArg (fun x => x.getLsbD j) h
    simpa [rsvField, hj] using this
  have hv : v[i] = v.getLsbD i := (BitVec.getLsbD_eq_getElem hi).symm
  simp only [commandWord, opdField, opcField, hv]
  by_cases h8 : i < 8
  · simp [h8]
  · by_cases h16 : i < 16
    · simp [h8, show 8 + (i - 8) = i by omega, show i - 8 < 8 by omega]
    · have := hr (i - 16) (by omega)
      rw [show 16 + (i - 16) = i by omega] at this
      simp [h8, this, show ¬ i - 8 < 8 by omega]

theorem formatN_eq_command {i j : Instr} {opd : Byte} :
    formatN i opd = .command j ↔ opd = 0 ∧ i = j := by
  unfold formatN; split <;> simp_all

theorem formatI_eq_command {i j : Instr} :
    formatI i = .command j ↔ i.WellFormed = true ∧ i = j := by
  unfold formatI; split <;> simp_all

end Sys2Proof
end

