-- ==== Sys2Proof/Laws/Exec.lean ====
section
/-! SUPPORT. Everything a command can do: for each meaning with more than one outcome, the list of its
outcomes. -/

namespace Sys2Proof.Machine

variable {s t : State}

theorem execCrcRxbuf_cases (h : execCrcRxbuf s = .next t) :
    (260 < s.frameLen ∧ t = s.setCode .frameTooLong) ∨
    (s.frameLen ≤ 260 ∧ t = (s.setCrc (crc16 (s.rxFrame s.frameLen))).setCode .ok) := by
  unfold execCrcRxbuf at h
  split at h
  · exact .inl ⟨‹_›, by simpa using h⟩
  · exact .inr ⟨by omega, by simpa using h⟩

theorem execLoadVendor_cases {k : Byte} (h : execLoadVendor k s = .next t) :
    (¬ legalVendorIndex k ∧ t = s.setCode .illegalCommand) ∨
    ∃ hk : legalVendorIndex k,
      t = ((s.storeTx (vendorCommand ⟨k.toNat, Nat.lt_succ_of_le hk⟩)).setTxLen 4).setCode .ok := by
  unfold execLoadVendor at h
  split at h
  · exact .inr ⟨‹_›, by simpa using h⟩
  · exact .inl ⟨‹_›, by simpa using h⟩

/-- The five ends of PARSE (41_frame.md R90). -/
theorem execParse_cases (h : execParse s = .next t) :
    (s.frameLen < 5 ∧ t = s.clearParse.setCode .tooShort) ∨
    (260 < s.frameLen ∧ t = s.clearParse.setCode .frameTooLong) ∨
    (5 ≤ s.frameLen ∧ s.frameLen ≤ 260 ∧ s.checksumMatches s.frameCrc = false ∧
      t = (s.clearParse.setCrc s.frameCrc).setCode .checksumMismatch) ∨
    (5 ≤ s.frameLen ∧ s.frameLen ≤ 260 ∧ s.checksumMatches s.frameCrc = true ∧
      (s.rxByte 2).toNat ≠ s.frameLen - 5 ∧
      t = (s.clearParse.setCrc s.frameCrc).setCode .bytecountMismatch) ∨
    (5 ≤ s.frameLen ∧ s.frameLen ≤ 260 ∧ s.checksumMatches s.frameCrc = true ∧
      (s.rxByte 2).toNat = s.frameLen - 5 ∧
      t = (((s.clearParse.setCrc s.frameCrc).setResp s.frameHeader).setParseOk true).setCode .ok) := by
  unfold execParse at h
  split at h
  · exact .inl ⟨‹_›, by simpa using h⟩
  split at h
  · exact .inr (.inl ⟨‹_›, by simpa using h⟩)
  split at h
  · rename_i hm
    exact .inr (.inr (.inl ⟨by omega, by omega, Bool.eq_false_iff.2 hm, by simpa using h⟩))
  rename_i hm
  split at h
  · exact .inr (.inr (.inr (.inl ⟨by omega, by omega, not_not.1 hm, ‹_›, by simpa using h⟩)))
  · rename_i hb
    exact .inr (.inr (.inr (.inr ⟨by omega, by omega, not_not.1 hm, not_not.1 hb, by simpa using h⟩)))

/-- The four ends of DECODE_WORDS (42_unpack.md R96). -/
theorem execDecodeWords_cases {n : Byte} (h : execDecodeWords n s = .next t) :
    (¬ legalWordCount n ∧ t = s.setCode .illegalCommand) ∨
    (legalWordCount n ∧ s.parseOk = false ∧
      t = ((s.setPhysValid 0).setWordCount 0).setCode .noFrame) ∨
    (legalWordCount n ∧ s.parseOk = true ∧ s.resp.payLen.toNat < 2 * n.toNat ∧
      t = ((s.setPhysValid 0).setWordCount 0).setCode .insufficientPayload) ∨
    (legalWordCount n ∧ s.parseOk = true ∧ 2 * n.toNat ≤ s.resp.payLen.toNat ∧
      t = (((s.setPhysValid 0).setWords (storeAt s.words 0 (payloadWords s n.toNat))).setWordCount
        (n.setWidth 3)).setCode .ok) := by
  unfold execDecodeWords at h
  split at h
  · exact .inl ⟨‹_›, by simpa using h⟩
  split at h
  · exact .inr (.inl ⟨not_not.1 ‹_›, ‹_›, by simpa using h⟩)
  split at h
  · exact .inr (.inr (.inl ⟨not_not.1 ‹_›, Bool.eq_true_of_not_eq_false ‹_›, ‹_›, by simpa using h⟩))
  · exact .inr (.inr (.inr ⟨not_not.1 ‹_›, Bool.eq_true_of_not_eq_false ‹_›, by omega,
      by simpa using h⟩))

/-- The four ends of SCALE_K (42_unpack.md R100). -/
theorem scaleCommand_cases {k : Half → F64} {unset : Bool} {b : Byte}
    (h : scaleCommand k unset b s = .next t) :
    (¬ legalBase b ∧ t = s.setCode .illegalCommand) ∨
    (legalBase b ∧ s.wordCount.toNat < b.toNat + 3 ∧ t = s.setCode .wordsInvalid) ∨
    (legalBase b ∧ b.toNat + 3 ≤ s.wordCount.toNat ∧ unset = true ∧ t = s.setCode .scaleUnset) ∨
    (legalBase b ∧ b.toNat + 3 ≤ s.wordCount.toNat ∧ unset = false ∧
      t = (scaleLanes k b.toNat s).setCode .ok) := by
  unfold scaleCommand at h
  split at h
  · exact .inl ⟨‹_›, by simpa using h⟩
  split at h
  · exact .inr (.inl ⟨not_not.1 ‹_›, ‹_›, by simpa using h⟩)
  split at h
  · exact .inr (.inr (.inl ⟨not_not.1 ‹_›, by omega, ‹_›, by simpa using h⟩))
  · exact .inr (.inr (.inr ⟨not_not.1 ‹_›, by omega, Bool.eq_false_iff.2 ‹_›,
      by simpa using h⟩))

/-- The three words a SCALE command reads are WORDb, WORD(b+1) and WORD(b+2). -/
theorem wordTriple_eq (s : State) {b : Nat} (h : b + 2 < 6) :
    wordTriple s b = [s.words[b], s.words[b + 1], s.words[b + 2]] := by
  apply List.ext_getElem
  · simp [wordTriple]; omega
  · intro j h1 _
    have : j < 3 := by simp [wordTriple] at h1; omega
    match j, this with
    | 0, _ => simp [wordTriple]
    | 1, _ => simp [wordTriple]
    | 2, _ => simp [wordTriple]

end Sys2Proof.Machine
end

