-- ==== Sys2Proof/Laws/Frame.lean ====
section
/-! SUPPORT. The received frame: what PARSE checks depends on RXBUF and RX_LEN only, and is the validity of a
response frame (30_encoding.md R72). -/

namespace Sys2Proof.Machine

variable {s t : State}

theorem checksumMatches_iff {c : Half} : s.checksumMatches c = true ↔
    s.rxByte (s.frameLen - 2) = lowByte c ∧ s.rxByte (s.frameLen - 1) = highByte c :=
  decide_eq_true_iff

theorem frameLen_congr (h : s.rxLen = t.rxLen) : s.frameLen = t.frameLen := by
  simp [State.frameLen, h]

theorem frameCrc_congr (hr : s.rx = t.rx) (hl : s.rxLen = t.rxLen) : s.frameCrc = t.frameCrc := by
  simp [State.frameCrc, frameLen_congr hl, rxFrame_congr hr]

theorem checksumMatches_congr (hr : s.rx = t.rx) (hl : s.rxLen = t.rxLen) (c : Half) :
    s.checksumMatches c = t.checksumMatches c := by
  rw [Bool.eq_iff_iff, checksumMatches_iff, checksumMatches_iff, frameLen_congr hl, rxByte_congr hr,
    rxByte_congr hr]

theorem frameHeader_congr (hr : s.rx = t.rx) (hl : s.rxLen = t.rxLen) :
    s.frameHeader = t.frameHeader := by
  simp [State.frameHeader, frameLen_congr hl, rxByte_congr hr]

/-- A frame is valid exactly if it passes the checks of PARSE. -/
theorem validFrame_iff : ValidFrame s ↔
    5 ≤ s.frameLen ∧ s.frameLen ≤ 260 ∧ s.checksumMatches s.frameCrc = true ∧
      (s.rxByte 2).toNat = s.frameLen - 5 := by
  rw [checksumMatches_iff]
  rfl

theorem validFrame_congr (hr : s.rx = t.rx) (hl : s.rxLen = t.rxLen) : ValidFrame s ↔ ValidFrame t := by
  rw [validFrame_iff, validFrame_iff, frameLen_congr hl, frameCrc_congr hr hl,
    checksumMatches_congr hr hl, rxByte_congr hr]

end Sys2Proof.Machine
end

