-- ==== Sys2Proof/Laws/PerInstr.lean ====
section
/-! SUPPORT. Per constructor of Instr: `Fields`, that the word of a command has the command's opcode and
operand in its fields; and `Table`, what the case table of the decoder gives for them. -/

namespace Sys2Proof.Laws

/-- The fields of the encoded command (30_encoding.md R64). -/
def Fields.Statement (i : Instr) : Prop :=
  rsvField (encode i) = 0 ∧ opdField (encode i) = operand i ∧ opcField (encode i) = opcode i

/-- The case table on a command's own fields (30_encoding.md R70). -/
def Table.Statement (i : Instr) : Prop :=
  decodeFields (opcode i) (operand i) = if i.WellFormed then .command i else .illegal .operandIllegal

theorem encode_fields (i : Instr) : Fields.Statement i :=
  ⟨rsvField_commandWord _ _, opdField_commandWord _ _, opcField_commandWord _ _⟩

theorem Fields.nop : Fields.Statement .nop := encode_fields _
theorem Fields.crcInit : Fields.Statement .crcInit := encode_fields _
theorem Fields.crcByte (b : Byte) : Fields.Statement (.crcByte b) := encode_fields _
theorem Fields.crcRxbuf : Fields.Statement .crcRxbuf := encode_fields _
theorem Fields.buildReq : Fields.Statement .buildReq := encode_fields _
theorem Fields.loadVendor (k : Byte) : Fields.Statement (.loadVendor k) := encode_fields _
theorem Fields.parse : Fields.Statement .parse := encode_fields _
theorem Fields.decodeWords (n : Byte) : Fields.Statement (.decodeWords n) := encode_fields _
theorem Fields.scaleAccel (b : Byte) : Fields.Statement (.scaleAccel b) := encode_fields _
theorem Fields.scaleGyro (b : Byte) : Fields.Statement (.scaleGyro b) := encode_fields _
theorem Fields.scaleAngle (b : Byte) : Fields.Statement (.scaleAngle b) := encode_fields _
theorem Fields.softReset : Fields.Statement .softReset := encode_fields _

theorem Table.nop : Table.Statement .nop := by rfl
theorem Table.crcInit : Table.Statement .crcInit := by rfl
theorem Table.crcByte (b : Byte) : Table.Statement (.crcByte b) := by rfl
theorem Table.crcRxbuf : Table.Statement .crcRxbuf := by rfl
theorem Table.buildReq : Table.Statement .buildReq := by rfl
theorem Table.loadVendor (k : Byte) : Table.Statement (.loadVendor k) := by rfl
theorem Table.parse : Table.Statement .parse := by rfl
theorem Table.decodeWords (n : Byte) : Table.Statement (.decodeWords n) := by rfl
theorem Table.scaleAccel (b : Byte) : Table.Statement (.scaleAccel b) := by rfl
theorem Table.scaleGyro (b : Byte) : Table.Statement (.scaleGyro b) := by rfl
theorem Table.scaleAngle (b : Byte) : Table.Statement (.scaleAngle b) := by rfl
theorem Table.softReset : Table.Statement .softReset := by rfl

end Sys2Proof.Laws
end

