-- ==== Sys2Proof/Tests/Slice0.lean ====
section
/-! SUPPORT. Tests: ill-formed terms refused, words written out from the spec's encodings, the spec's own test
vectors (95_test_vectors.md), and for every statement with hypotheses a state that meets them. -/

namespace Sys2Proof.Tests

open Sys2Proof.Machine

/-! ### Helpers -/

/-- What `f` sees of the next state, if there is one. -/
def seen {α : Type} (o : Host.Outcome State Fault Refusal) (f : State → α) : Option α :=
  match o with
  | .next t => some (f t)
  | .fault _ => none
  | .refused _ => none

/-- The reset state with a frame received. -/
def received (bytes : List Byte) (len : FrameLen) : State :=
  (State.reset.setRx (storeAt State.reset.rx 0 bytes)).setRxLen len

/-- The reset state with accesses to come. -/
def issuing (q : List BusAccess) : State := State.reset.setPending q

/-- The frame MOT of 95_test_vectors.md. -/
def mot : List Byte :=
  [0x50, 0x03, 0x0C, 0x03, 0xE8, 0xFC, 0x18, 0x08, 0x00, 0x40, 0x00, 0xC0, 0x00, 0x7F, 0xFF, 0x47, 0x01]

/-- The state after PARSE-1. -/
def parsedMot : State :=
  ((received mot 17).setResp ⟨0x50, 0x03, 0x0C, 12⟩).setParseOk true

/-- The state after DEC-1, with a divisor. -/
def decodedMot (div : Half) : State :=
  ((parsedMot.setWords #v[1000, -1000, 2048, 16384, -16384, 32767]).setWordCount 6).setConfig ⟨div, false⟩

/-! ### WellFormed refuses -/

theorem smoke_vendor_index : (Instr.loadVendor 4).WellFormed = false := by decide
theorem smoke_word_count : (Instr.decodeWords 4).WellFormed = false := by decide
theorem smoke_accel_base : (Instr.scaleAccel 1).WellFormed = false := by decide
theorem smoke_gyro_base : (Instr.scaleGyro 6).WellFormed = false := by decide
theorem smoke_angle_base : (Instr.scaleAngle 2).WellFormed = false := by decide

/-! ### Words written out from 30_encoding.md R64 to R67: RSV, OPD, OPC -/

theorem test_words_control :
    decode 0b00000000000000000000000000000000 = .command .nop ∧
    decode 0b00000000000000000000000011110000 = .command .softReset := by decide

theorem test_words_crc :
    decode 0b00000000000000000000000000000001 = .command .crcInit ∧
    decode 0b00000000000000000101000000000010 = .command (.crcByte 0x50) ∧
    decode 0b00000000000000001111111100000010 = .command (.crcByte 0xFF) ∧
    decode 0b00000000000000000000000000000011 = .command .crcRxbuf := by decide

theorem test_words_frame :
    decode 0b00000000000000000000000000010000 = .command .buildReq ∧
    decode 0b00000000000000000000001100010001 = .command (.loadVendor 3) ∧
    decode 0b00000000000000000000000000100000 = .command .parse := by decide

theorem test_words_unpack :
    decode 0b00000000000000000000001100110000 = .command (.decodeWords 3) ∧
    decode 0b00000000000000000000011000110000 = .command (.decodeWords 6) ∧
    decode 0b00000000000000000000001100110001 = .command (.scaleAccel 3) ∧
    decode 0b00000000000000000000001100110010 = .command (.scaleGyro 3) ∧
    decode 0b00000000000000000000000000110011 = .command (.scaleAngle 0) := by decide

/-- ILL-1 to ILL-9 (95_test_vectors.md). -/
theorem test_words_illegal :
    decode 0x00010000 = .illegal .reservedBits ∧ decode 0x00000004 = .illegal .reservedOpcode ∧
    decode 0x00000101 = .illegal .operandPresent ∧ decode 0x00000430 = .illegal .operandIllegal ∧
    decode 0x00000131 = .illegal .operandIllegal ∧ decode 0x00000411 = .illegal .operandIllegal ∧
    decode 0x000001F0 = .illegal .operandPresent ∧ decode 0x000000FF = .illegal .reservedOpcode ∧
    decode 0x00000334 = .illegal .reservedOpcode := by decide

theorem test_fetch_word : step (State.reset.withFetchWord 32 0x00000211) =
    exec (.loadVendor 2) (State.reset.respond .done) := rfl

/-! ### The CRC unit (E1, CRC-9, CRC-C2, C3, C5, C7) -/

theorem test_crc_check_string :
    crc16 [0x31, 0x32, 0x33, 0x34, 0x35, 0x36, 0x37, 0x38, 0x39] = 0x4B37 := by decide +kernel

theorem test_crc_init : seen (exec .crcInit (State.reset.setCrc 0x1234)) (fun t => (t.crc, t.code)) =
    some (0xFFFF, .ok) := by decide

theorem test_crc_byte : seen (exec (.crcByte 0x03) (State.reset.setCrc 0x7CBF)) (fun t => t.crc) =
    some 0xB17D := by decide

theorem test_crc_rxbuf :
    seen (exec .crcRxbuf (received [0x31, 0x32, 0x33, 0x34, 0x35, 0x36, 0x37, 0x38, 0x39] 9)) (fun t => t.crc) =
      some 0x4B37 := by decide +kernel

theorem test_crc_rxbuf_too_long :
    seen (exec .crcRxbuf (State.reset.setRxLen 511)) (fun t => (t.crc, t.code)) =
      some (0xFFFF, .frameTooLong) := by decide

/-! ### The frame codec (BLD-7, VEN-2, VEN-5, PARSE-1, PARSE-7) -/

theorem test_build_req :
    seen (exec .buildReq (State.reset.setReq ⟨0x50, 0x04, 0x1234, 0xABCD⟩))
      (fun t => (t.tx.toList.take 8, t.txLen, t.crc)) =
      some ([0x50, 0x04, 0x12, 0x34, 0xAB, 0xCD, 0x07, 0x98], 8, 0x9807) := by decide +kernel

theorem test_load_vendor :
    seen (exec (.loadVendor 1) State.reset) (fun t => (t.tx.toList.take 2, t.txLen, t.crc)) =
      some ([0xFF, 0xAA], 4, 0xFFFF) := by decide +kernel

theorem test_parse :
    seen (exec .parse (received mot 17)) (fun t => (statusWord t, t.crc, readReg .resp0 t, readReg .resp1 t)) =
      some (0x01000000, 0x0147, 0x000C0350, 12) := by decide +kernel

theorem test_parse_request_as_response :
    seen (exec .parse (received [0x50, 0x03, 0x00, 0x30, 0x00, 0x06, 0xC8, 0x46] 8))
      (fun t => (statusWord t, t.crc, t.resp)) =
      some (0x00000003, 0x46C8, ⟨0, 0, 0, 0⟩) := by decide +kernel

/-! ### The unpacker (DEC-1, DEC-4 on a short payload, SCL-1, SCL-9, SCL-6) -/

theorem test_decode_words :
    seen (exec (.decodeWords 6) parsedMot)
      (fun t => (statusWord t, [0, 1, 2, 3, 4, 5].map fun i => readReg (.word i) t)) =
      some (0x01000600,
        [0x000003E8, 0xFFFFFC18, 0x00000800, 0x00004000, 0xFFFFC000, 0x00007FFF]) := by decide +kernel

theorem test_decode_words_short :
    seen (exec (.decodeWords 6) (parsedMot.setResp ⟨0x50, 0x03, 0x06, 6⟩)) (fun t => statusWord t) =
      some 0x01000005 := by decide +kernel

theorem test_scale_accel :
    seen (exec (.scaleAccel 0) (decodedMot 1000)) (fun t => (statusWord t, t.phys.toList.take 3)) =
      some (0x01070600, [0x3FF0000000000000, 0xBFF0000000000000, 0x4000624DD2F1A9FC]) := by
  decide +kernel

theorem test_scale_accel_precedence :
    seen (exec (.scaleAccel 0) State.reset) (fun t => statusWord t) = some 0x00000007 := by decide

theorem test_scale_gyro :
    seen (exec (.scaleGyro 3) (decodedMot 0)) (fun t => (statusWord t, t.phys.toList.drop 3)) =
      some (0x01380600, [0x408F400000000000, 0xC08F400000000000, 0x409F3FC180000000]) := by
  decide +kernel

theorem test_scale_angle :
    [(16384 : Half), -32768, 32767, 1, 0].map angle = [0x4056800000000000, 0xC066800000000000,
      0x40667FD300000000, 0x3F76800000000000, 0x0000000000000000] := by decide +kernel

/-- Table of 95_test_vectors.md, D = 1000 and D = 1024, and SCL-4 for the halved value. -/
theorem test_accel_table :
    accel 1000 false 1 = 0x3F50624DD2F1A9FC ∧ accel 1000 false 32767 = 0x4040622D0E560419 ∧
    accel 1000 false (-32768) = 0xC040624DD2F1A9FC ∧ accel 1024 false 32767 = 0x403FFFC000000000 ∧
    accel 1000 true 2048 = 0x3FF0624DD2F1A9FC := by decide +kernel

/-! ### Control and the bus (CTL-2 to CTL-8) -/

theorem test_nop : seen (exec .nop ((decodedMot 0).setCode .illegalCommand)) (fun t => statusWord t) =
    some 0x01000600 := by decide +kernel

theorem test_soft_reset :
    seen (exec .softReset (decodedMot 0x0800))
      (fun t => (statusWord t, readReg .config t, t.rxLen, t.crc, t.rx.toList.take 17)) =
      some (0, 0, 0, 0xFFFF, mot) := by decide +kernel

theorem test_bus_errors :
    seen (core.run 2 (issuing [.write 0x008 2 0xFFFF, .read 0x002 4])) (fun t => (t.log, t.config)) =
      some ([.busError, .busError], ⟨0, false⟩) := by decide +kernel

theorem test_reserved_and_read_only :
    seen (core.run 5 (issuing [.read 0x028 4, .read 0xC00 4, .write 0x004 4 0xFFFFFFFF, .read 0x004 4,
      .read 0x000 4])) (fun t => t.log) =
      some [.data 0, .data 0, .done, .data 0, .data 0] := by decide +kernel

theorem test_config_mask :
    seen (core.run 2 (issuing [.write 0x008 4 0xFFFFFFFF, .read 0x008 4])) (fun t => t.log) =
      some [.data 0x0001FFFF, .done] := by decide +kernel

theorem test_receive_write_clears_parse :
    seen (step (parsedMot.setPending [.write 0x1040 4 0x01])) (fun t => statusWord t) =
      some 0x00000000 := by decide +kernel

/-! ### Witnesses: the hypotheses of the statements can be met -/

theorem witness_DecodeOfEncode : (Instr.decodeWords 6).WellFormed = true := by decide

theorem witness_DecodedCommandEncodes : decode 0x00000331 = .command (.scaleAccel 3) := by decide

theorem witness_IllFormedOperands : (Instr.loadVendor 4).WellFormed = false ∧
    (Instr.scaleAngle 6).WellFormed = false := by decide

theorem witness_StepExecutes : (issuing [.write 0x000 4 0x00000020]).pending = [.write 0x000 4 0x00000020] ∧
    decode 0x00000020 = .command .parse := by decide

theorem witness_StepExecutes_illegal :
    (issuing [.write 0x000 4 0x00010000]).pending = [.write 0x000 4 0x00010000] ∧
    decode 0x00010000 = .illegal .reservedBits := by decide

theorem witness_IllegalWordChangesOnlyCode : ∀ i, decode 0x000000FF ≠ .command i := by
  intro i h
  exact absurd (h.symm.trans (by decide : decode 0x000000FF = .illegal .reservedOpcode)) (by simp)

theorem witness_BusError_misaligned :
    (issuing [.read 0x1FFF 4]).pending = [.read 0x1FFF 4] ∧ (0x1FFF#13).toNat % 4 ≠ 0 := by decide

theorem witness_BusError_width :
    (issuing [.write 0x008 2 7]).pending = [.write 0x008 2 7] ∧ (2 : Nat) ≠ 4 := by decide

theorem witness_EachStep : ∃ t, step (issuing [.read 0x004 4]) = .next t := ⟨_, rfl⟩

theorem witness_Read_once : (issuing [.read 0x1410 4, .write 0x000 4 0]).pending =
    .read 0x1410 4 :: [.write 0x000 4 0] ∧ (issuing [.read 0x000 4]).pending = [.read 0x000 4] ∧
    (0x1410#13).toNat % 4 = 0 := by decide

theorem witness_Reads : (issuing [.read 0x1FFC 4, .read 0x1FFC 4]).pending =
    .read 0x1FFC 4 :: .read 0x1FFC 4 :: [] ∧ (0x1FFC#13).toNat % 4 = 0 := by decide

theorem witness_RegisterMap : (0x1FFC : Nat) % 4 = 0 ∧ 0x1FFC ≤ 0x1FFC ∧ regAt 0x1FFC = .reserved ∧
    regAt 0x028 = .reserved ∧ regAt 0x054 = .word 5 ∧ regAt 0x0AC = .physHi 5 ∧
    regAt 0x80C = .txbuf 259 ∧ regAt 0x140C = .rxbuf 259 := by decide

theorem witness_Reserved_read : (issuing [.read 0x028 4]).pending = [.read 0x028 4] ∧
    (0x028#13).toNat % 4 = 0 ∧ regAt (0x028#13).toNat = .reserved := by decide

theorem witness_Reserved_write : (issuing [.write 0x024 4 9]).pending = [.write 0x024 4 9] ∧
    (0x024#13).toNat % 4 = 0 ∧ regAt (0x024#13).toNat ≠ .cmd ∧
    isReadWrite (regAt (0x024#13).toNat) = false := by decide

theorem witness_Reserved_bits :
    (0xFFFFFFFF : Word) &&& fieldMask .rxLen = 0x000001FF &&& fieldMask .rxLen := by decide

theorem witness_WrittenFields : isReadWrite (.txbuf 259) = true ∧ isReceive (.txbuf 259) = false ∧
    isReadWrite (.rxbuf 259) = true ∧ isReceive (.rxbuf 259) = true ∧
    BlockReg.rxbuf 258 ≠ .rxbuf 259 := by decide

theorem witness_Writes : (issuing [.write 0x80C 4 0xFF]).pending = [.write 0x80C 4 0xFF] ∧
    (0x80C : Offset) = BitVec.ofNat 13 (0x400 + 4 * 259) ∧
    (0x140C : Offset) = BitVec.ofNat 13 (0x1000 + 4 * 259) := by decide

theorem witness_Writes_command :
    (issuing [command (.crcByte 0x50), command (.crcByte 0x50)]).pending =
      command (.crcByte 0x50) :: command (.crcByte 0x50) :: [] := by decide

theorem witness_ReceiveWrite_once : (parsedMot.setPending [.write 0x140C 4 0]).pending = [.write 0x140C 4 0] ∧
    (0x140C#13).toNat % 4 = 0 ∧ isReceive (regAt (0x140C#13).toNat) = true := by decide

theorem witness_ReceiveWrite : (parsedMot.setPending [.write 0x01C 4 17, command (.decodeWords 6)]).pending =
    .write 0x01C 4 17 :: command (.decodeWords 6) :: [] ∧ (0x01C#13).toNat % 4 = 0 ∧
    isReceive (regAt (0x01C#13).toNat) = true := by decide

theorem witness_Idle : State.reset.pending = [] := by decide

theorem witness_exec_next (i : Instr) (h : i = .nop ∨ i = .buildReq ∨ i = .crcInit) :
    ∃ t, exec i State.reset = .next t := by
  rcases h with rfl | rfl | rfl <;> exact ⟨_, rfl⟩

theorem witness_CrcInit : (0x00000101 : Word).extractLsb' 0 8 = 0x01 ∧ (0x00000101 : Word) ≠ 0x00000001 := by
  decide

theorem witness_CrcSequence :
    (issuing [command .crcInit, command (.crcByte 0x31), command (.crcByte 0x32), .read 0x00C 4]).pending =
      command .crcInit :: ([0x31, 0x32].map fun b => command (.crcByte b)) ++ [.read 0x00C 4] := by decide

theorem witness_CrcRxbuf : 260 < (State.reset.setRxLen 261).rxLen.toNat ∧
    (State.reset.setRxLen 260).rxLen.toNat ≤ 260 ∧ (State.reset.setRxLen 260).rxLen = 260 ∧
    State.reset.rxLen = 0 := by decide

theorem witness_CrcRxbuf_example :
    (received [0x31, 0x32, 0x33, 0x34, 0x35, 0x36, 0x37, 0x38, 0x39] 9).rxLen = 9 ∧
    (received [0x31, 0x32, 0x33, 0x34, 0x35, 0x36, 0x37, 0x38, 0x39] 9).rx.toList.take 9 =
      [0x31, 0x32, 0x33, 0x34, 0x35, 0x36, 0x37, 0x38, 0x39] := by decide +kernel

theorem witness_OneByteChange : (0x00 : Byte) ≠ 0x01 := by decide

theorem witness_BuildReq : (State.reset.setReq ⟨0x50, 0x03, 0x0030, 0x0006⟩).req =
    ⟨0x50, 0x03, 0x0030, 0x0006⟩ := by decide

theorem witness_ValidFrame : ValidFrame (received mot 17) := by decide +kernel

/-- EMPTY, the shortest valid frame. -/
theorem witness_ValidFrame_shortest : ValidFrame (received [0x50, 0x03, 0x00, 0x71, 0x21] 5) := by
  decide +kernel

theorem witness_ParseErrors_length : (State.reset.setRxLen 4).rxLen.toNat < 5 ∧
    260 < (State.reset.setRxLen 261).rxLen.toNat := by decide

/-- PARSE-8. -/
theorem witness_ParseErrors_checksum : 5 ≤ (received (mot.set 16 0) 17).rxLen.toNat ∧
    (received (mot.set 16 0) 17).rxLen.toNat ≤ 260 ∧ ¬ ChecksumOk (received (mot.set 16 0) 17) := by
  decide +kernel

/-- PARSE-7. -/
theorem witness_ParseErrors_bytecount :
    let s := received [0x50, 0x03, 0x00, 0x30, 0x00, 0x06, 0xC8, 0x46] 8
    5 ≤ s.rxLen.toNat ∧ s.rxLen.toNat ≤ 260 ∧ ChecksumOk s ∧
      (s.rxByte 2).toNat ≠ s.rxLen.toNat - 5 := by decide +kernel

theorem witness_ParseErrors_illegal :
    (0x00010020 : Word).extractLsb' 0 8 = 0x20 ∧ (0x00010020 : Word) ≠ 0x00000020 := by decide

theorem witness_parse_next (s : State) (h : s.rxLen = 0) : ∃ t, exec .parse s = .next t :=
  ⟨s.clearParse.setCode .tooShort, by simp [exec, execParse, State.frameLen, h]⟩

theorem witness_ParseChecksNoRequest :
    (received [0x50, 0x03, 0x00, 0x71, 0x21] 5).rxLen = 5 ∧
    ChecksumOk (received [0x50, 0x03, 0x00, 0x71, 0x21] 5) ∧
    (received [0x50, 0x03, 0x00, 0x71, 0x21] 5).rxByte 2 = 0 := by decide +kernel

/-- A frame from another address with another function and an odd payload, and PARSE-7 (a wrong byte-count). -/
theorem witness_ParseChecksNoRequest_longer :
    let body : List Byte := [0x51, 0x04, 0x03, 0x12, 0x34, 0x56]
    let s := received (body ++ littleEndian (crc16 body)) 8
    let q := received [0x50, 0x03, 0x00, 0x30, 0x00, 0x06, 0xC8, 0x46] 8
    (5 ≤ s.rxLen.toNat ∧ s.rxLen.toNat ≤ 260 ∧ ChecksumOk s ∧ (s.rxByte 2).toNat = s.rxLen.toNat - 5) ∧
      5 ≤ q.rxLen.toNat ∧ q.rxLen.toNat ≤ 260 ∧ ChecksumOk q ∧
        (q.rxByte 2).toNat ≠ q.rxLen.toNat - 5 := by decide +kernel

/-- An exception response: function 0x83, exception code 2. -/
theorem witness_ParseChecksNoRequest_exception :
    let body : List Byte := [0x50, 0x83, 0x02]
    let s := received (body ++ littleEndian (crc16 body)) 5
    s.rxLen = 5 ∧ ChecksumOk s ∧ s.rxByte 2 ≠ 0 := by decide +kernel

theorem witness_Tamper : ValidFrame (received mot 17) ∧
    (0x46 : Byte) ≠ (received mot 17).rxByte ((received mot 17).rxLen.toNat - 2) := by decide +kernel

theorem witness_ParseReturns :
    let payload : List Byte := [0x12, 0x34, 0x56]
    let s := received [0x50, 0x03, 0x03, 0x12, 0x34, 0x56, 0x7E, 0xF4] 8
    payload.length ≤ 255 ∧ s.rxLen = BitVec.ofNat 9 (payload.length + 5) ∧
      s.rx.toList.take (payload.length + 5) = responseFrame 0x50 0x03 payload := by decide +kernel

theorem witness_LoadParseDecode :
    let q := loadRx (responseFrame 0x50 0x03 (wordsPayload [1000, -1000, 2048] ++ [0xDE])) ++
      [command .parse, command (.decodeWords 3)] ++ [.read 0x004 4]
    (issuing q).pending = q ∧ ([1000, -1000, 2048] : List Half).length = (3 : Byte).toNat ∧
      2 * (3 : Byte).toNat + ([0xDE] : List Byte).length ≤ 255 := by decide +kernel

theorem witness_DecodeWords : parsedMot.parseOk = true ∧
    2 * (6 : Byte).toNat ≤ parsedMot.resp.payLen.toNat := by decide

theorem witness_DecodeErrors : State.reset.parseOk = false ∧
    (parsedMot.setResp ⟨0x50, 0x03, 0x0B, 11⟩).parseOk = true ∧
    (parsedMot.setResp ⟨0x50, 0x03, 0x0B, 11⟩).resp.payLen.toNat < 2 * (6 : Byte).toNat := by decide

theorem witness_DecodedWordsReadSigned :
    (5 : Fin 6).val < (6 : Byte).toNat ∧
      seen (exec (.decodeWords 6) parsedMot) (fun t => t.code) = some .ok := by decide +kernel

theorem witness_DecodeReadsOnly (n : Byte) :
    (∀ i : Fin 260, 3 ≤ i.val → i.val < 3 + 2 * n.toNat → State.reset.rx[i] = State.reset.rx[i]) ∧
      ∃ t, exec (.decodeWords 3) State.reset = .next t :=
  ⟨fun _ _ _ => rfl, _, rfl⟩

theorem witness_Scale : (3 : Byte).toNat + 3 ≤ (decodedMot 1000).wordCount.toNat ∧
    (decodedMot 1000).config.div ≠ 0 := by decide

theorem witness_ScaleErrors : ((decodedMot 1000).setWordCount 3).wordCount.toNat < (3 : Byte).toNat + 3 ∧
    (0 : Byte).toNat + 3 ≤ ((decodedMot 0).setWordCount 3).wordCount.toNat ∧
    ((decodedMot 0).setWordCount 3).config.div = 0 := by decide

theorem witness_AccelNearest : (1000 : Half) ≠ 0 ∧ f64Finite 0x3F50624DD2F1A9FD ∧
    f64Value 0x3F50624DD2F1A9FD ≠ f64Value (accel 1000 false 1) := by
  have h : accel 1000 false 1 = 0x3F50624DD2F1A9FC := by decide +kernel
  rw [h]
  refine ⟨by decide, by decide, ?_⟩
  have e1 : f64ToFraction 0x3F50624DD2F1A9FD = (4611686018427389, 4611686018427387904) := by
    decide +kernel
  have e2 : f64ToFraction 0x3F50624DD2F1A9FC = (4611686018427388, 4611686018427387904) := by
    decide +kernel
  simp only [f64Value, e1, e2]
  norm_num

theorem witness_ScaleResults : (65535 : Half) ≠ 0 ∧ (0xFFFF : Half) ≠ 0 := by decide

theorem witness_Lanes : ∃ t t',
    exec (.scaleGyro 0) (decodedMot 0) = .next t ∧
    exec (.scaleGyro 0) { decodedMot 0 with words := #v[1000, 7, 7, 7, 7, 7] } = .next t' ∧
    (#v[1000, 7, 7, 7, 7, 7] : Vector Half 6)[(0 : Fin 6)] = (decodedMot 0).words[(0 : Fin 6)] :=
  ⟨_, _, rfl, rfl, by decide⟩

theorem witness_Nop : (0x00000100 : Word).extractLsb' 0 8 = 0x00 ∧ (0x00000100 : Word) ≠ 0x00000000 := by
  decide

/-- The state after SCL-1, with an access to come. -/
def scaledMot : State :=
  (((decodedMot 1000).setPhys #v[0x3FF0000000000000, 0xBFF0000000000000, 0x4000624DD2F1A9FC, 0, 0, 0]).setPhysValid
    0b000111).setPending [.write 0x1000 4 0x51]

theorem witness_StepKeepsTheInvariant : Coherent scaledMot ∧ ∃ t, step scaledMot = .next t := by
  refine ⟨⟨by decide, fun _ => by decide +kernel, by decide, by decide, fun _ => by decide +kernel, ?_⟩, _, rfl⟩
  intro i hi
  have h3 : ∀ i : Fin 6, scaledMot.physValid.getLsbD i = true → i.val < scaledMot.wordCount.toNat ∧
      scaledMot.phys[i] = accel 1000 false scaledMot.words[i] := by decide +kernel
  exact ⟨(h3 i hi).1, .inr (.inr ⟨1000, false, by decide, (h3 i hi).2⟩)⟩

theorem witness_CommandsReport : (Instr.scaleAccel 3).WellFormed = true ∧
    ∃ t, exec (.scaleAccel 3) State.reset = .next t := ⟨by decide, _, rfl⟩

theorem witness_OnlyParse : (received mot 17).parseOk = false ∧
    seen (step ((received mot 17).setPending [command .parse])) (fun t => t.parseOk) = some true := by
  decide +kernel

theorem witness_OnlyCrc :
    seen (step (issuing [command (.crcByte 0x50)])) (fun t => decide (t.crc ≠ State.reset.crc)) =
      some true := by decide +kernel

theorem witness_ResultRegisters :
    seen (step (parsedMot.setPending [command (.decodeWords 3)]))
      (fun t => decide (t.words ≠ parsedMot.words)) = some true ∧
    seen (step ((decodedMot 1000).setPending [command (.scaleAccel 0)]))
      (fun t => decide (t.phys ≠ (decodedMot 1000).phys)) = some true ∧
    seen (step (((State.reset.setTx (storeAt State.reset.tx 0 [0x00]))).setPending [.write 0x400 4 1]))
      (fun t => (t.tx.toList.take 1)) = some [1] := by decide +kernel

end Sys2Proof.Tests
end

section
/-! PROOFS. Host reads and writes (20_memory.md R46, R48, R49): one rule per kind of accepted access, what
`readReg` and `writeReg` do with reserved bits and with a repeated write, and the three obligations. -/

namespace Sys2Proof.Machine

/-! ### One accepted access -/

section
variable {s t : State} {off : Offset} {v : Word} {rest : List BusAccess}

/-- A 32-bit access is accepted exactly if it is aligned (20_memory.md R45). -/
@[simp] theorem accepts_four : accepts off 4 = true ↔ off.toNat % 4 = 0 := by
  simp [accepts]

/-- No register reads the host's list of accesses (log 1). -/
@[simp] theorem readReg_setPending (r : BlockReg) (s : State) (q : List BusAccess) :
    readReg r (s.setPending q) = readReg r s := by
  cases r <;> rfl

/-- No register reads the answers given (log 2). -/
@[simp] theorem readReg_respond (r : BlockReg) (s : State) (a : BusResponse) :
    readReg r (s.respond a) = readReg r s := by
  cases r <;> rfl

/-- An accepted read is answered with what the register holds, and nothing else happens (20_memory.md R48). -/
theorem step_read (hp : s.pending = .read off 4 :: rest) (ha : off.toNat % 4 = 0) :
    step s = .next ((s.setPending rest).respond (.data (readReg (regAt off.toNat) s))) := by
  rw [step_access hp, busAccess, if_pos (accepts_four.2 ha), readReg_setPending]

/-- An accepted write is answered and then carried out (20_memory.md R47). -/
theorem step_write (hp : s.pending = .write off 4 v :: rest) (ha : off.toNat % 4 = 0) :
    step s = hostWrite off v ((s.setPending rest).respond .done) := by
  rw [step_access hp, busAccess, if_pos (accepts_four.2 ha)]

theorem hostWrite_cmd (h : regAt off.toNat = .cmd) : hostWrite off v s = runCommand v s := by
  simp [hostWrite, h]

theorem hostWrite_reg (h : regAt off.toNat ≠ .cmd) :
    hostWrite off v s = .next (writeReg (regAt off.toNat) v s) := by
  unfold hostWrite
  split
  · contradiction
  · rfl

theorem step_write_cmd (hp : s.pending = .write 0 4 v :: rest) :
    step s = runCommand v ((s.setPending rest).respond .done) := by
  rw [step_write hp rfl, hostWrite_cmd (off := 0) regAt_cmd]

/-- A write at the offset of a register other than CMD is `writeReg` of that register. -/
theorem step_write_reg {r : BlockReg} (hp : s.pending = .write off 4 v :: rest)
    (ha : off.toNat % 4 = 0) (hr : regAt off.toNat = r) (hc : r ≠ .cmd) :
    step s = .next (writeReg r v ((s.setPending rest).respond .done)) := by
  subst hr
  rw [step_write hp ha, hostWrite_reg hc]

theorem core_run_succ (k : Nat) (h : step s = .next t) : core.run (k + 1) s = core.run k t := by
  have hc : core.step s = .next t := h
  simp only [Host.Core.run, hc]

/-- Two steps that answer a next state, as one run of the machine. -/
theorem core_run_two {u : State} (h₁ : step s = .next t) (h₂ : step t = .next u) :
    core.run 2 s = .next u := by
  rw [core_run_succ 1 h₁, core_run_succ 0 h₂]
  rfl

end

/-! ### The fields of a register -/

/-- A field of `w` bits placed at bit `k` has no bit in a mask that the ones of the field do not meet. -/
theorem field_and_eq_zero {w : Nat} (x : BitVec w) (k : Nat) (m : Word)
    (h : ((BitVec.allOnes w).setWidth 32 <<< k) &&& m = 0) : (x.setWidth 32 <<< k) &&& m = 0 := by
  ext i hi
  by_cases hw : i - k < w
  · have hbit : k ≤ i → m[i] = false := by
      simpa [hi, hw] using congrArg (fun y : Word => y.getLsbD i) h
    simpa using fun hk _ => hbit hk
  · simp [BitVec.getLsbD_of_ge x (i - k) (by omega)]

/-- The same for a field at bit 0. -/
theorem lowField_and_eq_zero {w : Nat} (x : BitVec w) (m : Word)
    (h : (BitVec.allOnes w).setWidth 32 &&& m = 0) : x.setWidth 32 &&& m = 0 := by
  simpa using field_and_eq_zero x 0 m (by simpa using h)

/-- A word put together of two parts meets a mask nowhere if neither part does. -/
theorem or_and_eq_zero {a b m : Word} (ha : a &&& m = 0) (hb : b &&& m = 0) : (a ||| b) &&& m = 0 := by
  rw [BitVec.and_or_distrib_right, ha, hb, BitVec.or_self]

/-- Every reserved bit reads 0 (20_memory.md R46). -/
theorem readReg_and_not_fieldMask (r : BlockReg) (s : State) : readReg r s &&& ~~~ fieldMask r = 0 := by
  cases r with
  | status =>
    exact or_and_eq_zero (or_and_eq_zero (or_and_eq_zero (lowField_and_eq_zero _ _ (by decide))
      (field_and_eq_zero _ 8 _ (by decide))) (field_and_eq_zero _ 16 _ (by decide)))
      (field_and_eq_zero _ 24 _ (by decide))
  | config =>
    exact or_and_eq_zero (field_and_eq_zero _ 16 _ (by decide)) (lowField_and_eq_zero _ _ (by decide))
  | req0 =>
    exact or_and_eq_zero (field_and_eq_zero _ 8 _ (by decide)) (lowField_and_eq_zero _ _ (by decide))
  | resp0 =>
    exact or_and_eq_zero (or_and_eq_zero (field_and_eq_zero _ 16 _ (by decide))
      (field_and_eq_zero _ 8 _ (by decide))) (lowField_and_eq_zero _ _ (by decide))
  | crc | txLen | rxLen | resp1 => exact lowField_and_eq_zero _ _ (by decide)
  | txbuf | rxbuf => exact lowField_and_eq_zero _ (~~~ 0xFF) (by decide)
  | req1 | word | physLo | physHi => simp [fieldMask]
  | cmd | reserved => simp [readReg]

/-- Two words that agree under a mask agree in every field the mask covers. -/
theorem extractLsb'_eq_of_and_eq {v w m : Word} {i n : Nat} (h : v &&& m = w &&& m)
    (hm : m.extractLsb' i n = BitVec.allOnes n) : v.extractLsb' i n = w.extractLsb' i n := by
  have hx := congrArg (fun y : Word => y.extractLsb' i n) h
  simpa [BitVec.extractLsb'_and, hm] using hx

/-! ### Register writes -/

/-- A write takes nothing of its value but the bits of the register's fields (20_memory.md R46). -/
theorem writeReg_eq_of_and_fieldMask_eq {r : BlockReg} {v w : Word} (s : State)
    (h : v &&& fieldMask r = w &&& fieldMask r) : writeReg r v s = writeReg r w s := by
  have field (i n : Nat) (hm : (fieldMask r).extractLsb' i n = BitVec.allOnes n) :
      v.extractLsb' i n = w.extractLsb' i n := extractLsb'_eq_of_and_eq h hm
  cases r with
  | config =>
    have halve : v.getLsbD 16 = w.getLsbD 16 := by
      simpa using congrArg (fun y => y.getLsbD 0) (field 16 1 rfl)
    rw [writeReg, writeReg, field 0 16 rfl, halve]
  | req0 => rw [writeReg, writeReg, field 0 8 rfl, field 8 8 rfl]
  | req1 => rw [writeReg, writeReg, field 0 16 rfl, field 16 16 rfl]
  | txLen | rxLen => rw [writeReg, writeReg, field 0 9 rfl]
  | txbuf | rxbuf => rw [writeReg, writeReg, field 0 8 rfl]
  | cmd | status | crc | resp0 | resp1 | word | physLo | physHi | reserved => rfl

/-- Only a read-write register is written (20_memory.md R46, R49). -/
theorem writeReg_of_not_readWrite {r : BlockReg} (v : Word) (s : State) (h : isReadWrite r = false) :
    writeReg r v s = s := by
  cases r with
  | config | req0 | req1 | txLen | rxLen | txbuf | rxbuf => simp [isReadWrite] at h
  | cmd | status | crc | resp0 | resp1 | word | physLo | physHi | reserved => rfl

/-- Writing the same value again changes nothing (20_memory.md R49). -/
theorem writeReg_writeReg (r : BlockReg) (v : Word) (s : State) :
    writeReg r v (writeReg r v s) = writeReg r v s := by
  cases r with
  | txbuf i => simp [writeReg, State.setTx]
  | rxbuf i => simp [writeReg, State.setRx, State.setParseOk]
  | _ => rfl

/-! ### The command CRC_BYTE, issued over the bus -/

/-- The word of a command decodes as the case table says of its opcode and operand (30_encoding.md R70). -/
theorem decode_encode_eq_decodeFields (i : Instr) :
    decode (encode i) = decodeFields (opcode i) (operand i) := by
  obtain ⟨hrsv, hopd, hopc⟩ := Laws.encode_fields i
  rw [decode, if_pos hrsv, hopd, hopc]

theorem step_crcByte {s : State} {b : Byte} {rest : List BusAccess}
    (hp : s.pending = command (.crcByte b) :: rest) :
    step s = .next { s with
      pending := rest, log := .done :: s.log, crc := crcStep s.crc b, code := .ok } := by
  have hd : decode (encode (.crcByte b)) = .command (.crcByte b) :=
    (decode_encode_eq_decodeFields _).trans (Laws.Table.crcByte b)
  rw [step_write_cmd hp, runCommand, hd]
  rfl

/-! ### The obligations -/

/-- Settles O12: an accepted read is the answer and nothing else, so a second one meets the same registers. -/
theorem readsHaveNoSideEffect : Obligations.ReadsHaveNoSideEffect := by
  refine ⟨fun s off rest hp ha => step_read hp ha, fun s off rest hp ha => ?_⟩
  have h₂ := step_read (s := (s.setPending (.read off 4 :: rest)).respond
    (.data (readReg (regAt off.toNat) s))) rfl ha
  rw [readReg_respond, readReg_setPending] at h₂
  exact core_run_two (step_read hp ha) h₂

/-- Settles O14: no register holds a bit outside its fields, a write takes nothing but the bits of the fields,
and a register that is not read-write is not written at all. -/
theorem reservedReadsZeroAndIgnoresWrites : Obligations.ReservedReadsZeroAndIgnoresWrites := by
  refine ⟨readReg_and_not_fieldMask, ?_, ?_, fun r v w s h => writeReg_eq_of_and_fieldMask_eq s h⟩
  · intro s off rest hp ha hr
    rw [step_read hp ha, hr]
    rfl
  · intro s off v rest hp ha hc hro
    rw [step_write_reg hp ha rfl hc, writeReg_of_not_readWrite _ _ hro]
    rfl

/-- Settles O16: the offset fixes the register and `writeReg` gives its effect, which a second equal write
finds in place; a second CRC_BYTE starts from the CRC that the first one left. -/
theorem writesWithSideEffectsAreExactlyThese : Obligations.WritesWithSideEffectsAreExactlyThese := by
  refine ⟨fun s off v rest hp => ⟨?_, ?_, ?_, ?_, ?_, ?_, ?_, ?_⟩,
    fun r v s h => writeReg_of_not_readWrite v s h, writeReg_writeReg, ?_⟩
  · rintro rfl; exact step_write_cmd hp
  · rintro rfl; exact step_write_reg (r := .config) hp rfl rfl nofun
  · rintro rfl; exact step_write_reg (r := .req0) hp rfl rfl nofun
  · rintro rfl; exact step_write_reg (r := .req1) hp rfl rfl nofun
  · rintro rfl; exact step_write_reg (r := .txLen) hp rfl rfl nofun
  · rintro rfl; exact step_write_reg (r := .rxLen) hp rfl rfl nofun
  · rintro i rfl
    have ho : (BitVec.ofNat 13 (0x400 + 4 * i)).toNat = 0x400 + 4 * i := Nat.mod_eq_of_lt (by omega)
    exact step_write_reg (r := .txbuf i) hp (by omega) (by rw [ho]; exact regAt_txbuf i) nofun
  · rintro i rfl
    have ho : (BitVec.ofNat 13 (0x1000 + 4 * i)).toNat = 0x1000 + 4 * i :=
      Nat.mod_eq_of_lt (by omega)
    exact step_write_reg (r := .rxbuf i) hp (by omega) (by rw [ho]; exact regAt_rxbuf i) nofun
  · intro s b rest hp
    exact core_run_two (step_crcByte hp) (step_crcByte rfl)

end Sys2Proof.Machine
end

section
/-! PROOFS. The decoder as a case table (30_encoding.md R68, R70): which words are commands, how many there
are, which words are illegal, and the two obligations. A proof along the rows of `decodeFields` has its Format I
rows as cases h_3, h_6 and h_8 to h_11, and the opcodes outside the table as case h_13; the rest is Format N. -/

namespace Sys2Proof

/-! ### Words that are commands -/

/-- The table answers exactly a well-formed command's own opcode and operand with that command. -/
theorem decodeFields_eq_command {opc opd : Byte} {i : Instr} :
    decodeFields opc opd = .command i ↔ i.WellFormed = true ∧ opc = opcode i ∧ opd = operand i := by
  constructor
  · intro h
    unfold decodeFields at h
    split at h
    case h_13 => contradiction
    case h_3 | h_6 | h_8 | h_9 | h_10 | h_11 =>
      obtain ⟨hwf, rfl⟩ := formatI_eq_command.1 h
      exact ⟨hwf, rfl, rfl⟩
    all_goals
      obtain ⟨hopd, rfl⟩ := formatN_eq_command.1 h
      exact ⟨rfl, rfl, hopd⟩
  · rintro ⟨hwf, rfl, rfl⟩
    have table : Laws.Table.Statement i := by cases i <;> rfl
    rw [table, if_pos hwf]

/-- The rows of the case table (30_encoding.md R70): opcode, operand condition, command. -/
theorem decodeFields_command_rows {opc opd : Byte} {i : Instr} : decodeFields opc opd = .command i ↔
    (opc = 0x00 ∧ opd = 0 ∧ i = .nop) ∨
    (opc = 0x01 ∧ opd = 0 ∧ i = .crcInit) ∨
    (opc = 0x02 ∧ i = .crcByte opd) ∨
    (opc = 0x03 ∧ opd = 0 ∧ i = .crcRxbuf) ∨
    (opc = 0x10 ∧ opd = 0 ∧ i = .buildReq) ∨
    (opc = 0x11 ∧ opd.toNat ≤ 3 ∧ i = .loadVendor opd) ∨
    (opc = 0x20 ∧ opd = 0 ∧ i = .parse) ∨
    (opc = 0x30 ∧ (opd = 3 ∨ opd = 6) ∧ i = .decodeWords opd) ∨
    (opc = 0x31 ∧ (opd = 0 ∨ opd = 3) ∧ i = .scaleAccel opd) ∨
    (opc = 0x32 ∧ (opd = 0 ∨ opd = 3) ∧ i = .scaleGyro opd) ∨
    (opc = 0x33 ∧ (opd = 0 ∨ opd = 3) ∧ i = .scaleAngle opd) ∨
    (opc = 0xF0 ∧ opd = 0 ∧ i = .softReset) := by
  unfold decodeFields
  split
  case h_13 => simp_all
  case h_3 | h_6 | h_8 | h_9 | h_10 | h_11 =>
    simp [formatI_eq_command, Instr.WellFormed, eq_comm (a := i)]
  all_goals simp [formatN_eq_command, eq_comm (a := i)]

theorem decode_command {v : Word} {i : Instr} : decode v = .command i ↔
    rsvField v = 0 ∧ decodeFields (opcField v) (opdField v) = .command i := by
  unfold decode; split <;> simp_all

/-- The commands of the decoder are the well-formed ones, each of its own word only. -/
theorem decode_eq_command {v : Word} {i : Instr} :
    decode v = .command i ↔ i.WellFormed = true ∧ encode i = v := by
  rw [decode_command, decodeFields_eq_command]
  constructor
  · rintro ⟨hrsv, hwf, hopc, hopd⟩
    exact ⟨hwf, by rw [word_eq_commandWord hrsv, hopc, hopd, encode]⟩
  · rintro ⟨hwf, rfl⟩
    obtain ⟨hrsv, hopd, hopc⟩ := Laws.encode_fields i
    exact ⟨hrsv, hwf, hopc, hopd⟩

/-! ### The number of legal words -/

/-- The well-formed commands other than CRC_BYTE (30_encoding.md R66, R67). -/
def otherLegalCommands : List Instr :=
  [.nop, .crcInit, .crcRxbuf, .buildReq, .parse, .softReset,
   .loadVendor 0, .loadVendor 1, .loadVendor 2, .loadVendor 3, .decodeWords 3, .decodeWords 6,
   .scaleAccel 0, .scaleAccel 3, .scaleGyro 0, .scaleGyro 3, .scaleAngle 0, .scaleAngle 3]

/-- All well-formed commands: 256 of CRC_BYTE and 18 others (30_encoding.md R70). -/
def legalCommands : List Instr :=
  (List.finRange 256).map (fun b => .crcByte (BitVec.ofFin b)) ++ otherLegalCommands

theorem legalVendorIndex_iff {k : Byte} : legalVendorIndex k ↔ k = 0 ∨ k = 1 ∨ k = 2 ∨ k = 3 := by
  unfold legalVendorIndex
  bv_omega

theorem mem_legalCommands {i : Instr} : i ∈ legalCommands ↔ i.WellFormed = true := by
  cases i with
  | crcByte b =>
    have hb : ∃ a, BitVec.ofFin a = b := ⟨b.toFin, rfl⟩
    simp [legalCommands, Instr.WellFormed, hb]
  | loadVendor k => simp [legalCommands, otherLegalCommands, Instr.WellFormed, legalVendorIndex_iff]
  | _ => simp [legalCommands, otherLegalCommands, Instr.WellFormed]

theorem nodup_legalCommands : legalCommands.Nodup := by
  refine List.Nodup.append ((List.nodup_finRange 256).map fun a b h => ?_) (by decide) ?_
  · simpa using h
  · simp [List.Disjoint, otherLegalCommands]

theorem length_legalCommands : legalCommands.length = 274 := by
  simp [legalCommands, otherLegalCommands]

/-- Two well-formed commands have different words. -/
theorem encode_inj_of_wellFormed {i j : Instr} (hi : i.WellFormed = true) (hj : j.WellFormed = true)
    (h : encode i = encode j) : i = j := by
  have hdi := decode_eq_command.2 ⟨hi, h⟩
  have hdj := decode_eq_command.2 ⟨hj, rfl⟩
  simpa [hdi] using hdj

/-! ### Illegal words -/

theorem formatN_illegal {i : Instr} {opd : Byte} : (∃ why, formatN i opd = .illegal why) ↔ opd ≠ 0 := by
  unfold formatN; split <;> simp_all

theorem formatI_illegal {i : Instr} : (∃ why, formatI i = .illegal why) ↔ i.WellFormed = false := by
  unfold formatI; split <;> simp_all

theorem decode_illegal {v : Word} : (∃ why, decode v = .illegal why) ↔
    rsvField v ≠ 0 ∨ ∃ why, decodeFields (opcField v) (opdField v) = .illegal why := by
  unfold decode; split <;> simp_all

/-- The cases of R68 that the bytes OPC and OPD decide, along the rows of the case table. -/
theorem decodeFields_illegal {opc opd : Byte} : (∃ why, decodeFields opc opd = .illegal why) ↔
    opc ∉ ([0x00, 0x01, 0x02, 0x03, 0x10, 0x11, 0x20, 0x30, 0x31, 0x32, 0x33, 0xF0] : List Byte) ∨
    (opc ∈ ([0x00, 0x01, 0x03, 0x10, 0x20, 0xF0] : List Byte) ∧ opd ≠ 0) ∨
    (opc = 0x11 ∧ 3 < opd.toNat) ∨
    (opc = 0x30 ∧ opd ≠ 3 ∧ opd ≠ 6) ∨
    (opc ∈ ([0x31, 0x32, 0x33] : List Byte) ∧ opd ≠ 0 ∧ opd ≠ 3) := by
  unfold decodeFields
  split
  case h_13 => simp_all
  case h_3 | h_6 | h_8 | h_9 | h_10 | h_11 => simp [formatI_illegal, Instr.WellFormed]
  all_goals simp [formatN_illegal]

theorem runCommand_illegal {v : Word} {why : IllegalWord} (s : Machine.State)
    (h : decode v = .illegal why) : Machine.runCommand v s = .next { s with code := .illegalCommand } := by
  rw [Machine.runCommand, h]
  rfl

/-! ### The obligations -/

/-- Settles O3: each row of the table is one kind of command with its opcode and its legal operands, and the
legal words are the encodings of the 274 well-formed commands. -/
theorem decoderFollowsItsCaseTable : Obligations.DecoderFollowsItsCaseTable := by
  refine ⟨fun _ _ => decode_command.trans (and_congr_right fun _ => decodeFields_command_rows),
    legalCommands.map encode, ?_, ?_, fun v => ?_⟩
  · exact nodup_legalCommands.map_on fun i hi j hj =>
      encode_inj_of_wellFormed (mem_legalCommands.1 hi) (mem_legalCommands.1 hj)
  · rw [List.length_map, length_legalCommands]
  · simp only [List.mem_map, mem_legalCommands, decode_eq_command]

/-- Settles O4: RSV first and then the rows of the case table name the four cases, and an illegal word does
nothing but `raise`. -/
theorem illegalWordsAreTheFourKinds : Obligations.IllegalWordsAreTheFourKinds :=
  fun _ => ⟨decode_illegal.trans (or_congr_right decodeFields_illegal), fun _ s h => runCommand_illegal s h⟩

end Sys2Proof
end

section
/-! PROOFS. The CRC unit (40_crc.md R79, R80, R82): the shift steps as a fold, the words of a command without an
operand, what CRC_RXBUF answers for each RX_LEN, and the three obligations. -/

namespace Sys2Proof

/-- A word with the opcode of a command that no other command shares is that command's word or is illegal
(30_encoding.md R68). -/
theorem decode_illegal_of_ne_encode {i : Instr} {v : Word} (honly : ∀ j, opcode j = opcode i → j = i)
    (hopc : opcField v = opcode i) (hv : v ≠ encode i) : ∃ why, decode v = .illegal why := by
  cases hd : decode v with
  | illegal why => exact ⟨why, rfl⟩
  | command j =>
    obtain ⟨-, rfl⟩ := decode_eq_command.1 hd
    obtain ⟨-, -, hj⟩ := Laws.encode_fields j
    exact absurd (congrArg encode (honly j (hj.symm.trans hopc))) hv

theorem eq_crcInit_of_opcode {i : Instr} (h : opcode i = opcode .crcInit) : i = .crcInit := by
  cases i with
  | crcInit => rfl
  | _ => simp [opcode] at h

namespace Machine

/-! ### The bit loop -/

/-- The recursion over the number of shift steps is the loop `repeat k times` (40_crc.md R79). -/
theorem crcShifts_eq_foldl (k : Nat) (c : Half) :
    crcShifts k c = (List.range k).foldl (fun x _ => crcShift x) c := by
  induction k generalizing c with
  | zero => rfl
  | succ k ih => rw [crcShifts, ih, List.range_succ_eq_map, List.foldl_cons, List.foldl_map]

/-! ### The commands -/

theorem exec_crcInit (s : State) : exec .crcInit s = .next ((s.setCrc 0xFFFF).setCode .ok) := rfl

theorem exec_crcRxbuf_of_gt {s : State} (h : 260 < s.frameLen) :
    exec .crcRxbuf s = .next (s.setCode .frameTooLong) :=
  if_pos h

/-- CRC_RXBUF with RX_LEN = n, for an n that the buffer holds. -/
theorem exec_crcRxbuf_of_frameLen {s : State} {n : Nat} (hlen : s.frameLen = n) (hn : n ≤ 260) :
    exec .crcRxbuf s = .next ((s.setCrc (crc16 (s.rxFrame n))).setCode .ok) := by
  subst hlen
  exact if_neg hn.not_gt

/-- `RX[0..260)` is the whole buffer. -/
theorem rxFrame_full (s : State) : s.rxFrame 260 = s.rx.toList :=
  List.take_of_length_le (by simp)

/-- The check string of the spec (40_crc.md R82, example). -/
theorem crc16_checkString :
    crc16 [0x31, 0x32, 0x33, 0x34, 0x35, 0x36, 0x37, 0x38, 0x39] = 0x4B37 := by
  decide +kernel

/-! ### The obligations -/

/-- Settles O20: the eight shift steps are the fold of the loop; the initial value and the byte order are the
definitions' own. -/
theorem crcFunctionIsTheDocumentedLoop : Obligations.CrcFunctionIsTheDocumentedLoop :=
  ⟨fun _ _ => crcShifts_eq_foldl 8 _, fun _ => rfl, fun _ => rfl⟩

/-- Settles O21: what CRC_INIT leaves does not depend on CRC or CODE, so a second one changes nothing; no other
command has its opcode. -/
theorem crcInitSetsTheInitialValue : Obligations.CrcInitSetsTheInitialValue := by
  refine ⟨exec_crcInit, by decide,
    fun v hopc hv => decode_illegal_of_ne_encode (fun _ => eq_crcInit_of_opcode) hopc hv, fun s t h => ?_⟩
  rw [exec_crcInit] at h ⊢
  cases h
  rfl

/-- Settles O24: RX_LEN above 260 is the error; below, the corner cases are the general one with the first 0,
260 and 9 bytes of the buffer. -/
theorem crcRxbufCoversTheFrame : Obligations.CrcRxbufCoversTheFrame := by
  refine ⟨fun s => ⟨exec_crcRxbuf_of_gt, exec_crcRxbuf_of_frameLen rfl, fun h => ?_, fun h => ?_,
    fun h hcheck => ?_⟩, by decide⟩
  · exact exec_crcRxbuf_of_frameLen (n := 0) (congrArg BitVec.toNat h) (by decide)
  · rw [exec_crcRxbuf_of_frameLen (n := 260) (congrArg BitVec.toNat h) le_rfl, rxFrame_full]
    rfl
  · rw [exec_crcRxbuf_of_frameLen (n := 9) (congrArg BitVec.toNat h) (by decide), State.rxFrame, hcheck,
      crc16_checkString]
    rfl

end Machine

end Sys2Proof
end

section
/-! PROOFS. The frame codec (41_frame.md R85, R92, R93): what a store at the start of a buffer leaves, the words
with the opcode of a command without an operand, what PARSE answers at each error, and the three obligations. -/

namespace Sys2Proof

/-- A word with the opcode of a command that takes no operand is that command's word or is illegal
(30_encoding.md R68). -/
theorem decode_illegal_of_formatN_opcode {v : Word}
    (hopc : opcField v ∈ ([0x00, 0x01, 0x03, 0x10, 0x20, 0xF0] : List Byte))
    (hv : v ≠ commandWord 0 (opcField v)) : ∃ why, decode v = .illegal why := by
  rw [decode_illegal, decodeFields_illegal]
  by_cases hrsv : rsvField v = 0
  · have hopd : opdField v ≠ 0 := fun h => hv (h ▸ word_eq_commandWord hrsv)
    exact .inr (.inr (.inl ⟨hopc, hopd⟩))
  · exact .inl hrsv

namespace Machine

/-! ### Stores into TXBUF -/

/-- A run stored from index 0 on stands before the rest of what was there. -/
theorem storeAt_zero_toList {α : Type} {n : Nat} (v : Vector α n) (xs : List α) (h : xs.length ≤ n) :
    (storeAt v 0 xs).toList = xs ++ v.toList.drop xs.length := by
  apply List.ext_getElem
  · simp [h]
  · intro j hj _
    have hjn : j < n := by simpa using hj
    rw [Vector.getElem_toList, storeAt_getElem]
    by_cases hx : j < xs.length
    · simp [hx]
    · simp [hx, List.getElem_append_right (Nat.le_of_not_lt hx), Nat.add_sub_cancel' (Nat.le_of_not_lt hx)]

/-! ### BUILD_REQ -/

theorem exec_buildReq (s : State) : exec .buildReq s = .next
    ((((s.storeTx (requestFrame s.req)).setTxLen 8).setCrc (crc16 (requestHeader s.req))).setCode .ok) := rfl

/-- The four writes of BUILD_REQ leave every other register alone, whatever is stored. -/
theorem eq_of_storeTx_setTxLen_setCrc_setCode {s t : State} {bytes : List Byte} {n : FrameLen} {c : Half}
    {code : ResultCode} (h : t = (((s.storeTx bytes).setTxLen n).setCrc c).setCode code) :
    t = { s with tx := t.tx, txLen := n, crc := t.crc, code := code } := by
  subst h
  rfl

theorem requestFrame_length (r : RequestRegs) : (requestFrame r).length = 8 := rfl

/-- TXBUF after BUILD_REQ: the eight bytes of the frame, then the bytes that were there (41_frame.md R85). -/
theorem storeTx_requestFrame (s : State) (r : RequestRegs) :
    (s.storeTx (requestFrame r)).tx.toList = requestFrame r ++ s.tx.toList.drop 8 :=
  storeAt_zero_toList s.tx (requestFrame r) (by rw [requestFrame_length]; decide)

/-- The request of the spec's example (41_frame.md R85). -/
theorem requestFrame_example :
    requestFrame ⟨0x50, 0x03, 0x0030, 0x0006⟩ = [0x50, 0x03, 0x00, 0x30, 0x00, 0x06, 0xC8, 0x46] := by
  decide +kernel

/-- The checksum of that request (41_frame.md R85). -/
theorem crc16_requestHeader_example : crc16 (requestHeader ⟨0x50, 0x03, 0x0030, 0x0006⟩) = 0x46C8 := by
  decide +kernel

/-! ### PARSE -/

/-- The trailing bytes are the checksum exactly if the check of PARSE says so (41_frame.md R91). -/
theorem checksumOk_iff {s : State} : ChecksumOk s ↔ s.checksumMatches s.frameCrc = true :=
  checksumMatches_iff.symm

theorem exec_parse_of_lt {s : State} (h : s.frameLen < 5) :
    exec .parse s = .next (s.clearParse.setCode .tooShort) :=
  if_pos h

theorem exec_parse_of_gt {s : State} (h : 260 < s.frameLen) :
    exec .parse s = .next (s.clearParse.setCode .frameTooLong) :=
  (if_neg (by omega)).trans (if_pos h)

section
variable {s : State} (h5 : 5 ≤ s.frameLen) (h260 : s.frameLen ≤ 260)
include h5 h260

theorem exec_parse_of_not_checksumOk (hc : ¬ ChecksumOk s) :
    exec .parse s = .next ((s.clearParse.setCrc s.frameCrc).setCode .checksumMismatch) := by
  rw [checksumOk_iff] at hc
  rw [exec, execParse, if_neg h5.not_gt, if_neg h260.not_gt, if_pos hc]
  rfl

theorem exec_parse_of_bytecount_ne (hc : ChecksumOk s) (hb : (s.rxByte 2).toNat ≠ s.frameLen - 5) :
    exec .parse s = .next ((s.clearParse.setCrc s.frameCrc).setCode .bytecountMismatch) := by
  rw [checksumOk_iff] at hc
  rw [exec, execParse, if_neg h5.not_gt, if_neg h260.not_gt, if_neg (not_not.2 hc), if_pos hb]
  rfl

end

/-- Every end of PARSE is `raise` or `finish`, so PARSE always completes. -/
theorem exec_parse_next (s : State) : ∃ t, exec .parse s = .next t := by
  rw [exec, execParse]
  split_ifs <;> exact ⟨_, rfl⟩

/-- No end of PARSE writes WORD_COUNT or PHYS_VALID after they were cleared (41_frame.md R92). -/
theorem exec_parse_clears {s t : State} (h : exec .parse s = .next t) :
    t.wordCount = 0 ∧ t.physValid = 0 := by
  obtain ⟨-, rfl⟩ | ⟨-, rfl⟩ | ⟨-, -, -, rfl⟩ | ⟨-, -, -, -, rfl⟩ | ⟨-, -, -, -, rfl⟩ :=
    execParse_cases h
  all_goals exact ⟨rfl, rfl⟩

/-! ### The obligations -/

/-- Settles O27: what is stored is `requestFrame` of the operands, the eight bytes of the statement. -/
theorem buildReqBuildsTheRequestFrame : Obligations.BuildReqBuildsTheRequestFrame := by
  refine ⟨fun s => ⟨_, exec_buildReq s, rfl, storeTx_requestFrame s s.req,
    eq_of_storeTx_setTxLen_setCrc_setCode rfl⟩, by decide, fun s hreq => ⟨_, exec_buildReq s, ?_, rfl, ?_⟩⟩
  · rw [setCode_tx, setCrc_tx, setTxLen_tx, storeTx_requestFrame, List.take_left' (requestFrame_length _),
      hreq, requestFrame_example]
  · simp only [setCode_crc, setCrc_crc, hreq, crc16_requestHeader_example]

/-- Settles O30: the checks stand in the order of the list, each with its own state; the length checks come
before the checksum is computed. -/
theorem parseReportsTheFirstError : Obligations.ParseReportsTheFirstError := by
  refine ⟨fun v s hopc hv => ?_, fun s => ⟨exec_parse_of_lt, exec_parse_of_gt,
    exec_parse_of_not_checksumOk, exec_parse_of_bytecount_ne⟩⟩
  have hf : opcField v = 0x20 := hopc
  obtain ⟨why, hd⟩ := decode_illegal_of_formatN_opcode (v := v) (by simp [hf]) (by rw [hf]; exact hv)
  exact runCommand_illegal s hd

/-- Settles O32: PARSE always completes, and each of its five ends keeps what `clearParse` cleared. -/
theorem parseClearsEarlierResults : Obligations.ParseClearsEarlierResults := by
  intro s
  obtain ⟨t, ht⟩ := exec_parse_next s
  exact ⟨t, ht, exec_parse_clears ht⟩

end Machine

end Sys2Proof
end

section
/-! PROOFS. Illegal command words (43_control.md R110): a word is a command's or is illegal, and the obligation
on what an illegal one does. -/

namespace Sys2Proof

/-- The decoder has two answers only (30_encoding.md R70). -/
theorem illegal_of_forall_ne_command {d : Decoded} (h : ∀ i, d ≠ .command i) : ∃ why, d = .illegal why := by
  cases d with
  | command i => exact absurd rfl (h i)
  | illegal why => exact ⟨why, rfl⟩

/-- Settles O8: a word that is no command's is illegal, and an illegal word only reports ILLEGAL_COMMAND; each
word of the examples is illegal by a case of R68. -/
theorem illegalWordChangesOnlyCode : Obligations.IllegalWordChangesOnlyCode := by
  refine ⟨fun s v hv => ?_, rfl, ?_⟩
  · obtain ⟨why, hd⟩ := illegal_of_forall_ne_command hv
    exact runCommand_illegal s hd
  · simp only [List.forall_mem_cons]
    exact ⟨⟨.reservedBits, by decide⟩, ⟨.reservedOpcode, by decide⟩, ⟨.operandPresent, by decide⟩,
      ⟨.operandIllegal, by decide⟩, ⟨.operandIllegal, by decide⟩, List.forall_mem_nil _⟩

end Sys2Proof
end

section
/-! PROOFS. Bus errors (20_memory.md R45, 60_exceptions.md R121): which accesses the block does not accept, what
a step answers to one, and the obligation. -/

namespace Sys2Proof.Machine

/-- An access is not accepted exactly if it is misaligned or not 32 bits wide (20_memory.md R45). -/
theorem accepts_eq_false_iff {off : Offset} {size : Nat} :
    accepts off size = false ↔ off.toNat % 4 ≠ 0 ∨ size ≠ 4 := by
  simp [accepts, imp_iff_not_or, or_comm]

section
variable {s : State} {off : Offset} {size : Nat} {rest : List BusAccess}

theorem step_read_of_not_accepts (hp : s.pending = .read off size :: rest) (ha : accepts off size = false) :
    step s = .next ((s.setPending rest).respond .busError) := by
  simp [step_access hp, busAccess, ha]

theorem step_write_of_not_accepts {v : Word} (hp : s.pending = .write off size v :: rest)
    (ha : accepts off size = false) : step s = .next ((s.setPending rest).respond .busError) := by
  simp [step_access hp, busAccess, ha]

end

/-- Settles O9: an access that is misaligned or not 32 bits wide is not accepted, and the answer to a read or
a write that is not accepted is all that the step adds to the state. -/
theorem busErrorChangesNoBlockState : Obligations.BusErrorChangesNoBlockState := by
  intro s a off size v rest hp haccess hbad
  have ha : accepts off size = false := accepts_eq_false_iff.2 hbad
  obtain rfl | rfl := haccess
  · exact step_read_of_not_accepts hp ha
  · exact step_write_of_not_accepts hp ha

end Sys2Proof.Machine
end

section
/-! PROOFS. Reset and hazards (70_reset_and_hazards.md R130, R136): a command issued over the bus is its meaning,
a write of the receive side clears PARSE_OK, what SOFT_RESET leaves in the registers, and the two obligations. -/

namespace Sys2Proof.Machine

/-! ### A legal command, issued over the bus -/

/-- The word of a legal command runs that command (30_encoding.md R70). -/
theorem runCommand_encode {i : Instr} (hwf : i.WellFormed = true) (s : State) :
    runCommand (encode i) s = exec i s := by
  rw [runCommand, decode_eq_command.2 ⟨hwf, rfl⟩]

/-- The write of a legal command's word is answered, and the command is executed (10_state.md R20). -/
theorem step_command {s : State} {i : Instr} {rest : List BusAccess}
    (hp : s.pending = command i :: rest) (hwf : i.WellFormed = true) :
    step s = exec i ((s.setPending rest).respond .done) := by
  rw [step_write_cmd hp, runCommand_encode hwf]

/-- DECODE_WORDS without a parsed frame reports NO_FRAME and decodes nothing (42_unpack.md R96). -/
theorem exec_decodeWords_of_parseOk_false {s : State} {n : Byte} (hn : legalWordCount n)
    (hs : s.parseOk = false) :
    exec (.decodeWords n) s = .next (((s.setPhysValid 0).setWordCount 0).setCode .noFrame) := by
  rw [exec, execDecodeWords, if_neg (not_not_intro hn), if_pos hs, raise]

/-! ### A write of the receive side -/

/-- A write of RX_LEN or of a byte of RXBUF clears PARSE_OK (10_state.md R25). -/
theorem writeReg_parseOk_of_isReceive {r : BlockReg} (h : isReceive r = true) (v : Word) (s : State) :
    (writeReg r v s).parseOk = false := by
  cases r with
  | rxLen | rxbuf => rfl
  | _ => contradiction

/-- The step of an accepted receive-side write is `writeReg`, for no such write is one of CMD. -/
theorem step_write_receive {s : State} {off : Offset} {v : Word} {rest : List BusAccess}
    (hp : s.pending = .write off 4 v :: rest) (ha : off.toNat % 4 = 0)
    (hr : isReceive (regAt off.toNat) = true) :
    step s = .next (writeReg (regAt off.toNat) v ((s.setPending rest).respond .done)) := by
  have hcmd : regAt off.toNat ≠ .cmd := fun h => by simp [h, isReceive] at hr
  exact step_write_reg hp ha rfl hcmd

/-! ### SOFT_RESET -/

/-- Every register that is no buffer byte reads from the fields that SOFT_RESET sets (43_control.md R109). -/
theorem readReg_resetRegisters {r : BlockReg} (h : isBuffer r = false) (s : State) :
    readReg r s.resetRegisters = readReg r State.reset := by
  cases r with
  | txbuf | rxbuf => contradiction
  | _ => rfl

/-! ### The obligations -/

/-- Settles O17: a receive-side write leaves PARSE_OK = 0, with the word registers as they were and the command
still pending, and DECODE_WORDS from such a state is its NO_FRAME end. -/
theorem receiveWriteInvalidatesTheParse : Obligations.ReceiveWriteInvalidatesTheParse := by
  refine ⟨fun s off v rest hp ha hr => ?_, fun s off v n rest hp ha hr hn => ?_⟩
  · exact ⟨_, step_write_receive hp ha hr, writeReg_parseOk_of_isReceive hr v _⟩
  · have hwrite := step_write_receive hp ha hr
    set u := writeReg (regAt off.toNat) v ((s.setPending (command (.decodeWords n) :: rest)).respond .done)
      with hu
    have hparse : u.parseOk = false := writeReg_parseOk_of_isReceive hr v _
    have hwords : u.words = s.words := by simp [hu]
    have hpending : u.pending = command (.decodeWords n) :: rest := by simp [hu]
    have hdecode := (step_command hpending (decide_eq_true hn)).trans
      (exec_decodeWords_of_parseOk_false hn hparse)
    exact ⟨_, core_run_two hwrite hdecode, hparse, rfl, hwords⟩

/-- Settles O51: SOFT_RESET is `resetRegisters`, which takes the buffers and the host's lists from the state
and every other field from power-on reset. -/
theorem softResetKeepsOnlyTheBuffers : Obligations.SoftResetKeepsOnlyTheBuffers :=
  fun s => ⟨s.resetRegisters, rfl, fun _ hr => readReg_resetRegisters hr s, rfl, rfl, rfl, rfl⟩

end Sys2Proof.Machine
end

section
/-! PROOFS. The encoder and the decoder as inverses of each other (30_encoding.md R64 to R70): the three
obligations that say so, and NOP's word (43_control.md R108). -/

namespace Sys2Proof

/-- Settles O1: a well-formed command is the one the decoder reads from its own word. -/
theorem decodeOfEncodeIsTheCommand : Obligations.DecodeOfEncodeIsTheCommand :=
  fun _ hwf => decode_eq_command.2 ⟨hwf, rfl⟩

/-- Settles O2: the decoder's commands are the well-formed ones, each from its own word only. -/
theorem decodedCommandEncodesToItsWord : Obligations.DecodedCommandEncodesToItsWord :=
  fun _ _ h => decode_eq_command.1 h

/-- Settles O5: each of the words is the encoding of its well-formed command. -/
theorem sampleWordsDecode : Obligations.SampleWordsDecode := by
  refine ⟨?_, ?_, ?_, ?_, ?_, ?_, ?_⟩
  all_goals exact decode_eq_command.2 (by decide)

/-- Settles O50: `finish` is all that NOP does, and no other word with its opcode has an empty operand field and
empty reserved bits. -/
theorem nopOnlyClearsCode : Obligations.NopOnlyClearsCode := by
  refine ⟨fun _ => rfl, by decide, fun v hopc hv => ?_⟩
  have hf : opcField v = 0 := hopc
  exact decode_illegal_of_formatN_opcode (by simp [hf]) (by rw [hf]; exact hv)

end Sys2Proof
end

section
/-! PROOFS. Everything a command and a step can do, said once: a command's effect, a step's kind, and that both
always happen. The obligations about what a command or a step leaves alone follow from these. -/

namespace Sys2Proof.Machine

/-! ### Commands -/

/-- A command whose operand byte is not legal reports ILLEGAL_COMMAND (log 9). -/
theorem exec_of_not_wellFormed {i : Instr} (h : i.WellFormed = false) (s : State) :
    exec i s = raise .illegalCommand s := by
  cases i with
  | loadVendor k => exact dif_neg (of_decide_eq_false h)
  | decodeWords n => exact if_pos (of_decide_eq_false h)
  | scaleAccel b | scaleGyro b | scaleAngle b => exact if_pos (of_decide_eq_false h)
  | nop | crcInit | crcByte | crcRxbuf | buildReq | parse | softReset => contradiction

theorem scaleCommand_next (k : Half → F64) (unset : Bool) (b : Byte) (s : State) :
    ∃ t, scaleCommand k unset b s = .next t := by
  unfold scaleCommand
  split_ifs <;> exact ⟨_, rfl⟩

/-- Every command ends with `raise` or `finish`, or is SOFT_RESET: none stops the block (60_exceptions.md
R113). -/
theorem exec_next (i : Instr) (s : State) : ∃ t, exec i s = .next t := by
  cases i with
  | nop | crcInit | crcByte | buildReq | softReset => exact ⟨_, rfl⟩
  | crcRxbuf =>
    rw [exec, execCrcRxbuf]
    split_ifs <;> exact ⟨_, rfl⟩
  | loadVendor k =>
    rw [exec, execLoadVendor]
    split_ifs <;> exact ⟨_, rfl⟩
  | parse => exact exec_parse_next s
  | decodeWords n =>
    rw [exec, execDecodeWords]
    split_ifs <;> exact ⟨_, rfl⟩
  | scaleAccel | scaleGyro | scaleAngle => exact scaleCommand_next _ _ _ s

/-- What command `i` can make of the state `s`. -/
inductive Effect (s : State) : Instr → State → Prop
  /-- Only CODE is written: an error that keeps everything else, or NOP. -/
  | code (i : Instr) (c : ResultCode) : Effect s i (s.setCode c)
  /-- A command of the CRC unit (40_crc.md R80 to R82). -/
  | crc {i : Instr} (c : Half) (hi : i = .crcInit ∨ (∃ b, i = .crcByte b) ∨ i = .crcRxbuf) :
    Effect s i ((s.setCrc c).setCode .ok)
  /-- BUILD_REQ (41_frame.md R85). -/
  | buildReq (bytes : List Byte) (c : Half) :
    Effect s .buildReq ((((s.storeTx bytes).setTxLen 8).setCrc c).setCode .ok)
  /-- LOAD_VENDOR (41_frame.md R88). -/
  | loadVendor (k : Byte) (bytes : List Byte) :
    Effect s (.loadVendor k) (((s.storeTx bytes).setTxLen 4).setCode .ok)
  /-- PARSE of a frame whose length is wrong (41_frame.md R93). -/
  | badLength (c : ResultCode) : Effect s .parse (s.clearParse.setCode c)
  /-- PARSE of a frame with a wrong checksum or byte-count (41_frame.md R93). -/
  | badFrame (c : ResultCode) (h5 : 5 ≤ s.frameLen) (h260 : s.frameLen ≤ 260) :
    Effect s .parse ((s.clearParse.setCrc s.frameCrc).setCode c)
  /-- PARSE of a valid frame (41_frame.md R90). -/
  | parsed (hv : ValidFrame s) : Effect s .parse
      ((((s.clearParse.setCrc s.frameCrc).setResp s.frameHeader).setParseOk true).setCode .ok)
  /-- DECODE_WORDS without a frame or with too short a payload (42_unpack.md R96). -/
  | noWords (n : Byte) (c : ResultCode) :
    Effect s (.decodeWords n) (((s.setPhysValid 0).setWordCount 0).setCode c)
  /-- DECODE_WORDS of a parsed payload (42_unpack.md R96). -/
  | words (n : Byte) (hn : legalWordCount n) (hlen : 2 * n.toNat ≤ s.resp.payLen.toNat) :
    Effect s (.decodeWords n)
      ((((s.setPhysValid 0).setWords (storeAt s.words 0 (payloadWords s n.toNat))).setWordCount
        (n.setWidth 3)).setCode .ok)
  /-- A SCALE command (42_unpack.md R100). -/
  | scaled {i : Instr} (b : Byte) (k : Half → F64)
    (hi : i = .scaleAccel b ∨ i = .scaleGyro b ∨ i = .scaleAngle b) (hb : legalBase b)
    (hcount : b.toNat + 3 ≤ s.wordCount.toNat) (hk : ∀ w, ScaledFrom w (k w)) :
    Effect s i ((scaleLanes k b.toNat s).setCode .ok)
  /-- SOFT_RESET (43_control.md R109). -/
  | softReset : Effect s .softReset s.resetRegisters

theorem scaleCommand_effect {s t : State} {k : Half → F64} {unset : Bool} {b : Byte} {i : Instr}
    (hi : i = .scaleAccel b ∨ i = .scaleGyro b ∨ i = .scaleAngle b)
    (hk : unset = false → ∀ w, ScaledFrom w (k w)) (h : scaleCommand k unset b s = .next t) :
    Effect s i t := by
  obtain ⟨-, rfl⟩ | ⟨-, -, rfl⟩ | ⟨-, -, -, rfl⟩ | ⟨hb, hcount, hset, rfl⟩ := scaleCommand_cases h
  · exact .code _ _
  · exact .code _ _
  · exact .code _ _
  · exact .scaled b k hi hb hcount (hk hset)

/-- The effects listed are all there are. -/
theorem exec_effect {i : Instr} {s t : State} (h : exec i s = .next t) : Effect s i t := by
  cases i with
  | nop => cases h; exact .code _ _
  | crcInit => cases h; exact .crc _ (.inl rfl)
  | crcByte b => cases h; exact .crc _ (.inr (.inl ⟨b, rfl⟩))
  | crcRxbuf =>
    obtain ⟨-, rfl⟩ | ⟨-, rfl⟩ := execCrcRxbuf_cases h
    · exact .code _ _
    · exact .crc _ (.inr (.inr rfl))
  | buildReq => cases h; exact .buildReq _ _
  | loadVendor k =>
    obtain ⟨-, rfl⟩ | ⟨-, rfl⟩ := execLoadVendor_cases h
    · exact .code _ _
    · exact .loadVendor k _
  | parse =>
    obtain ⟨-, rfl⟩ | ⟨-, rfl⟩ | ⟨h5, h260, -, rfl⟩ | ⟨h5, h260, -, -, rfl⟩ | ⟨h5, h260, hc, hb, rfl⟩ :=
      execParse_cases h
    · exact .badLength _
    · exact .badLength _
    · exact .badFrame _ h5 h260
    · exact .badFrame _ h5 h260
    · exact .parsed (validFrame_iff.2 ⟨h5, h260, hc, hb⟩)
  | decodeWords n =>
    obtain ⟨-, rfl⟩ | ⟨-, -, rfl⟩ | ⟨-, -, -, rfl⟩ | ⟨hn, -, hlen, rfl⟩ := execDecodeWords_cases h
    · exact .code _ _
    · exact .noWords n _
    · exact .noWords n _
    · exact .words n hn hlen
  | scaleAccel b =>
    refine scaleCommand_effect (.inl rfl) (fun hset w => ?_) h
    exact .inr (.inr ⟨s.config.div, s.config.halve, of_decide_eq_false hset, rfl⟩)
  | scaleGyro b => exact scaleCommand_effect (.inr (.inl rfl)) (fun _ _ => .inl rfl) h
  | scaleAngle b => exact scaleCommand_effect (.inr (.inr rfl)) (fun _ _ => .inr (.inl rfl)) h
  | softReset => cases h; exact .softReset

/-- No command touches RXBUF or the host's two lists. -/
theorem exec_keeps_host {i : Instr} {s t : State} (h : exec i s = .next t) :
    t.rx = s.rx ∧ t.pending = s.pending ∧ t.log = s.log := by
  cases exec_effect h <;> exact ⟨rfl, rfl, rfl⟩

/-- No command but SOFT_RESET touches the registers the host writes its operands to. -/
theorem exec_keeps_operands {i : Instr} {s t : State} (h : exec i s = .next t) (hi : i ≠ .softReset) :
    t.config = s.config ∧ t.req = s.req ∧ t.rxLen = s.rxLen := by
  cases exec_effect h with
  | softReset => contradiction
  | _ => exact ⟨rfl, rfl, rfl⟩

/-- The commands that write CRC (10_state.md R27). -/
theorem exec_crc {i : Instr} {s t : State} (h : exec i s = .next t) : t.crc = s.crc ∨
    i = .crcInit ∨ (∃ b, i = .crcByte b) ∨ i = .crcRxbuf ∨ i = .buildReq ∨ i = .softReset ∨
      (i = .parse ∧ 5 ≤ s.rxLen.toNat ∧ s.rxLen.toNat ≤ 260) := by
  cases exec_effect h with
  | code | loadVendor | badLength | noWords | words | scaled => exact .inl rfl
  | crc c hi => tauto
  | buildReq | softReset => simp
  | badFrame c h5 h260 => exact .inr (.inr (.inr (.inr (.inr (.inr ⟨rfl, h5, h260⟩)))))
  | parsed hv =>
    obtain ⟨h5, h260, -, -⟩ := hv
    exact .inr (.inr (.inr (.inr (.inr (.inr ⟨rfl, h5, h260⟩)))))

/-- The commands that write the WORD registers (10_state.md R34). -/
theorem exec_words {i : Instr} {s t : State} (h : exec i s = .next t) :
    t.words = s.words ∨ (∃ n, i = .decodeWords n) ∨ i = .softReset := by
  cases exec_effect h with
  | words n => exact .inr (.inl ⟨n, rfl⟩)
  | softReset => exact .inr (.inr rfl)
  | _ => exact .inl rfl

/-- The commands that write the PHYS registers (10_state.md R35). -/
theorem exec_phys {i : Instr} {s t : State} (h : exec i s = .next t) :
    t.phys = s.phys ∨ (∃ b, i = .scaleAccel b ∨ i = .scaleGyro b ∨ i = .scaleAngle b) ∨ i = .softReset := by
  cases exec_effect h with
  | scaled b k hi => exact .inr (.inl ⟨b, hi⟩)
  | softReset => exact .inr (.inr rfl)
  | _ => exact .inl rfl

/-- The commands that write TXBUF (10_state.md R36). -/
theorem exec_tx {i : Instr} {s t : State} (h : exec i s = .next t) :
    t.tx = s.tx ∨ i = .buildReq ∨ ∃ k, i = .loadVendor k := by
  cases exec_effect h with
  | buildReq => exact .inr (.inl rfl)
  | loadVendor k => exact .inr (.inr ⟨k, rfl⟩)
  | _ => exact .inl rfl

/-- The command that sets PARSE_OK (10_state.md R25). -/
theorem exec_parseOk {i : Instr} {s t : State} (h : exec i s = .next t) :
    t.parseOk = s.parseOk ∨ t.parseOk = false ∨ i = .parse := by
  cases exec_effect h with
  | badLength | badFrame | softReset => exact .inr (.inl rfl)
  | parsed => exact .inr (.inr rfl)
  | _ => exact .inl rfl

/-! ### Steps -/

/-- The state in which the host's oldest access is carried out: taken off the list and answered. -/
abbrev State.taken (s : State) (rest : List BusAccess) (r : BusResponse) : State :=
  (s.setPending rest).respond r

/-- What a step can make of the state `s`. -/
inductive StepKind (s : State) : State → Prop
  /-- The host issues nothing (log 3). -/
  | idle (hp : s.pending = []) : StepKind s s
  /-- A read, or an access that gets a bus error (20_memory.md R45, R48). -/
  | answered {a : BusAccess} {rest : List BusAccess} (r : BusResponse) (hp : s.pending = a :: rest) :
    StepKind s (s.taken rest r)
  /-- A write of a register (20_memory.md R49). -/
  | written {off : Offset} {v : Word} {rest : List BusAccess} (hp : s.pending = .write off 4 v :: rest) :
    StepKind s (writeReg (regAt off.toNat) v (s.taken rest .done))
  /-- An illegal command word (43_control.md R110). -/
  | illegal {v : Word} {rest : List BusAccess} (hp : s.pending = .write 0 4 v :: rest) :
    StepKind s ((s.taken rest .done).setCode .illegalCommand)
  /-- A command (10_state.md R20). -/
  | command {i : Instr} {rest : List BusAccess} {t : State} (hp : s.pending = command i :: rest)
    (hx : exec i (s.taken rest .done) = .next t) : StepKind s t

/-- The kinds listed are all there are. -/
theorem step_kind {s t : State} (h : step s = .next t) : StepKind s t := by
  obtain ⟨hp, rfl⟩ | ⟨a, rest, hp, ha⟩ := step_cases h
  · exact .idle hp
  obtain ⟨off, rfl, -, rfl⟩ | ⟨-, rfl⟩ | ⟨off, v, rfl, -, -, rfl⟩ | ⟨v, rfl, hv⟩ := busAccess_cases ha
  · exact .answered _ hp
  · exact .answered _ hp
  · exact .written hp
  · obtain ⟨i, hd, hx⟩ | ⟨why, -, rfl⟩ := runCommand_cases hv
    · obtain ⟨-, rfl⟩ := decode_eq_command.1 hd
      exact .command hp hx
    · exact .illegal hp

/-- A register write changes TXBUF only where it is the write of a byte of it. -/
theorem writeReg_tx {r : BlockReg} {v : Word} {s : State} (h : (writeReg r v s).tx ≠ s.tx) :
    ∃ k, r = .txbuf k := by
  cases r with
  | txbuf k => exact ⟨k, rfl⟩
  | _ => exact absurd rfl h

theorem runCommand_next (v : Word) (s : State) : ∃ t, runCommand v s = .next t := by
  unfold runCommand
  split
  · exact exec_next _ s
  · exact ⟨_, rfl⟩

theorem busAccess_next (a : BusAccess) (s : State) : ∃ t, busAccess a s = .next t := by
  cases a with
  | read off size =>
    rw [busAccess]
    split_ifs <;> exact ⟨_, rfl⟩
  | write off size v =>
    rw [busAccess]
    split_ifs
    · by_cases hcmd : regAt off.toNat = .cmd
      · rw [hostWrite_cmd hcmd]
        exact runCommand_next v _
      · exact ⟨_, hostWrite_reg hcmd⟩
    · exact ⟨_, rfl⟩

theorem step_next (s : State) : ∃ t, step s = .next t := by
  cases hp : s.pending with
  | nil => exact ⟨s, step_idle hp⟩
  | cons a rest =>
    rw [step_access hp]
    exact busAccess_next a _

/-! ### The obligations -/

/-- Settles O6: each command with a set of legal operands checks its operand first. -/
theorem illFormedOperandsEndAsIllegal : Obligations.IllFormedOperandsEndAsIllegal :=
  fun _ s hwf => exec_of_not_wellFormed hwf s

/-- Settles O7: the write of a word to CMD is `runCommand`, which is the decoder's answer carried out. -/
theorem stepExecutesTheCommandWritten : Obligations.StepExecutesTheCommandWritten := by
  intro s v rest hp
  refine ⟨fun i hd => ?_, fun why hd => ?_⟩
  · obtain ⟨hwf, rfl⟩ := decode_eq_command.1 hd
    exact step_command hp hwf
  · rw [step_write_cmd hp, runCommand_illegal _ hd]
    rfl

/-- Settles O10: every kind of step but the idle one takes the oldest access and answers it once, and no command
touches the two lists after that. -/
theorem eachStepAnswersTheOldestAccess : Obligations.EachStepAnswersTheOldestAccess := by
  intro s t h
  cases step_kind h with
  | idle hp => exact .inl ⟨hp, rfl⟩
  | answered r hp => exact .inr ⟨_, _, r, hp, rfl, rfl⟩
  | written hp => exact .inr ⟨_, _, .done, hp, by simp, by simp⟩
  | illegal hp => exact .inr ⟨_, _, .done, hp, rfl, rfl⟩
  | command hp hx =>
    obtain ⟨-, hpending, hlog⟩ := exec_keeps_host hx
    exact .inr ⟨_, _, .done, hp, hpending, hlog⟩

/-- Settles O11: every end of every command, and every answer to an access, is a next state. -/
theorem nothingStopsTheBlock : Obligations.NothingStopsTheBlock :=
  ⟨step_next, exec_next⟩

/-- Settles O18: the step performs the accesses of the host and nothing else. -/
theorem idleStepHoldsTheState : Obligations.IdleStepHoldsTheState :=
  fun _ hp => step_idle hp

/-- Settles O19: none of the effects of a command writes RXBUF or the host's lists, and only that of SOFT_RESET
writes the operand registers. -/
theorem commandsKeepTheHostsOperands : Obligations.CommandsKeepTheHostsOperands := by
  intro i s t h
  obtain ⟨hrx, hpending, hlog⟩ := exec_keeps_host h
  exact ⟨hrx, hpending, hlog, exec_keeps_operands h⟩

/-- Settles O57: register writes and the commands other than PARSE keep PARSE_OK or clear it. -/
theorem onlyParseSetsParseOk : Obligations.OnlyParseSetsParseOk := by
  intro s t h hs ht
  cases step_kind h with
  | idle | answered | illegal => exact absurd (hs.symm.trans ht) Bool.false_ne_true
  | @written off v rest hp =>
    obtain hf | ⟨hk, -, -⟩ := writeReg_receive (regAt off.toNat) v (s.taken rest .done)
    · exact absurd (hf.symm.trans ht) Bool.false_ne_true
    · exact absurd (hs.symm.trans (hk.symm.trans ht)) Bool.false_ne_true
  | command hp hx =>
    obtain hk | hf | rfl := exec_parseOk hx
    · exact absurd (hs.symm.trans (hk.symm.trans ht)) Bool.false_ne_true
    · exact absurd (hf.symm.trans ht) Bool.false_ne_true
    · exact ⟨_, hp⟩

/-- Settles O58: a step that is no command leaves CRC, and of the commands only those that write it change it. -/
theorem onlyCrcCommandsChangeCrc : Obligations.OnlyCrcCommandsChangeCrc := by
  intro s t h hne
  cases step_kind h with
  | idle | answered | illegal => exact absurd rfl hne
  | written hp => exact absurd (by simp) hne
  | @command i rest _ hp hx => exact ⟨i, rest, hp, (exec_crc hx).resolve_left hne⟩

/-- Settles O59: a register write reaches TXBUF only, at its own offsets, and each command writes the result
registers of its own unit only. -/
theorem resultRegistersHaveTheirWriters : Obligations.ResultRegistersHaveTheirWriters := by
  intro s t h
  cases step_kind h with
  | idle | answered | illegal => exact ⟨absurd rfl, absurd rfl, absurd rfl⟩
  | @written off v rest hp =>
    refine ⟨fun hne => absurd (by simp) hne, fun hne => absurd (by simp) hne, fun hne => ?_⟩
    obtain ⟨k, hk⟩ := writeReg_tx hne
    exact .inr ⟨off, v, rest, k, hp, hk⟩
  | @command i rest _ hp hx =>
    exact ⟨fun hne => ⟨i, rest, hp, (exec_words hx).resolve_left hne⟩,
      fun hne => ⟨i, rest, hp, (exec_phys hx).resolve_left hne⟩,
      fun hne => .inl ⟨i, rest, hp, (exec_tx hx).resolve_left hne⟩⟩

end Sys2Proof.Machine
end

section
/-! PROOFS. The invariant of the valid flags (10_state.md R23 to R25, R33): what it rests on, which effects and
register writes keep it, and the two obligations. -/

namespace Sys2Proof.Machine

/-! ### Reaching the invariant -/

/-- The fields that the invariant speaks of. -/
def flagView (s : State) :=
  (s.wordCount, s.physValid, s.parseOk, s.rxLen, s.rx, s.resp, s.words, s.phys)

/-- The invariant speaks of no other field. -/
theorem Coherent.congr {s t : State} (hs : Coherent s) (h : flagView t = flagView s) : Coherent t := by
  simp only [flagView, Prod.mk.injEq] at h
  obtain ⟨hcount, hvalid, hok, hlen, hrx, hresp, hwords, hphys⟩ := h
  have hbyte := rxByte_congr hrx
  constructor
  · rw [hcount]; exact hs.wordCountLegal
  · rw [hok, validFrame_congr hrx hlen, hresp, hbyte, hbyte, hbyte, hlen]; exact hs.parsed
  · rw [hresp]; exact hs.bcntIsPayLen
  · rw [hcount, hresp]; exact hs.wordsFit
  · simp only [hok, hcount, hwords, hbyte]; exact hs.wordsCurrent
  · simp only [hvalid, hcount, hwords, hphys]; exact hs.physCurrent

/-- With no word counted and no value valid only the promises about the frame are left. -/
theorem coherent_of_no_words {s : State} (hcount : s.wordCount = 0) (hvalid : s.physValid = 0)
    (hparsed : s.parseOk = true → ValidFrame s ∧ s.resp = s.frameHeader)
    (hbcnt : s.resp.bcnt = s.resp.payLen) : Coherent s where
  wordCountLegal := .inl hcount
  parsed := hparsed
  bcntIsPayLen := hbcnt
  wordsFit := by simp [hcount]
  wordsCurrent _ i hi := by simp [hcount] at hi
  physCurrent i hi := by simp [hvalid] at hi

/-- What every PARSE clears leaves nothing to promise. -/
theorem coherent_clearParse (s : State) : Coherent s.clearParse :=
  coherent_of_no_words rfl rfl (absurd · Bool.false_ne_true) rfl

/-- The byte-count of a valid frame is the payload length recorded (30_encoding.md R72). -/
theorem frameHeader_bcnt {s : State} (hv : ValidFrame s) : s.frameHeader.bcnt = s.frameHeader.payLen := by
  obtain ⟨-, -, -, hb⟩ := hv
  have hb' : (s.rxByte 2).toNat = s.frameLen - 5 := hb
  rw [State.frameHeader, ← hb', BitVec.ofNat_toNat, BitVec.setWidth_eq]

/-! ### Register writes -/

/-- A register write leaves the recorded results alone, and clears PARSE_OK or leaves the frame alone. -/
theorem Coherent.writeReg {s : State} (hs : Coherent s) (r : BlockReg) (v : Word) :
    Coherent (writeReg r v s) := by
  obtain hok | ⟨hok, hrx, hlen⟩ := writeReg_receive r v s
  · have hne (h : (Machine.writeReg r v s).parseOk = true) : False := by simp [hok] at h
    constructor
    · simpa using hs.wordCountLegal
    · exact fun h => (hne h).elim
    · simpa using hs.bcntIsPayLen
    · simpa using hs.wordsFit
    · exact fun h => (hne h).elim
    · simpa using hs.physCurrent
  · exact hs.congr (by simp [flagView, hok, hrx, hlen])

/-! ### DECODE_WORDS -/

theorem payloadWords_length (s : State) (n : Nat) : (payloadWords s n).length = n := by
  simp [payloadWords]

/-- The words that DECODE_WORDS n stores are the payload words (42_unpack.md R96). -/
theorem storeAt_payloadWords_of_lt (s : State) {n : Nat} (i : Fin 6) (hi : i.val < n) :
    (storeAt s.words 0 (payloadWords s n))[i] = payloadWord s i := by
  have hj : i.val < (payloadWords s n).length := by rwa [payloadWords_length]
  simpa [payloadWords] using storeAt_inside (payloadWords s n) s.words 0 i.val (by omega) hj

/-- WORD_COUNT holds a legal word count. -/
theorem toNat_setWidth_of_legalWordCount {n : Byte} (hn : legalWordCount n) :
    (n.setWidth 3).toNat = n.toNat := by
  obtain rfl | rfl := hn <;> rfl

theorem coherent_decodeWords {s : State} {n : Byte} (hs : Coherent s) (hn : legalWordCount n)
    (hlen : 2 * n.toNat ≤ s.resp.payLen.toNat) :
    Coherent (((s.setPhysValid 0).setWords (storeAt s.words 0 (payloadWords s n.toNat))).setWordCount
      (n.setWidth 3)) where
  wordCountLegal := .inr (hn.imp (congrArg (BitVec.setWidth 3)) (congrArg (BitVec.setWidth 3)))
  parsed := hs.parsed
  bcntIsPayLen := hs.bcntIsPayLen
  wordsFit := (toNat_setWidth_of_legalWordCount hn).symm ▸ hlen
  wordsCurrent _ i hi := storeAt_payloadWords_of_lt s i (toNat_setWidth_of_legalWordCount hn ▸ hi)
  physCurrent i hi := by simp at hi

/-! ### The SCALE commands -/

/-- PHYSj of the triple is the scale of WORDj, and the others are kept (42_unpack.md R100). -/
theorem scaleLanes_phys (k : Half → F64) {b : Nat} (hb : b + 2 < 6) (s : State) (j : Fin 6) :
    (scaleLanes k b s).phys[j] =
      if b ≤ j.val ∧ j.val < b + 3 then k s.words[j] else s.phys[j] := by
  have hlen : ((wordTriple s b).map k).length = 3 := by simp [wordTriple_eq s hb]
  by_cases hj : b ≤ j.val ∧ j.val < b + 3
  · obtain ⟨d, hd⟩ : ∃ d, j.val = b + d := ⟨j.val - b, by omega⟩
    have hjb : b ≤ j.val ∧ j.val < b + ((wordTriple s b).map k).length := by omega
    rw [if_pos hj]
    refine (storeAt_getElem _ s.phys b j.val j.isLt).trans ?_
    rw [dif_pos hjb]
    simp [wordTriple, hd]
  · rw [if_neg hj]
    exact storeAt_outside _ s.phys b j.val j.isLt (by omega)

/-- The PHYS_VALID bits of the triple are set, and the others are kept (10_state.md R24). -/
theorem scaleLanes_physValid (k : Half → F64) {b : Nat} (hb : b + 2 < 6) (s : State) (j : Fin 6) :
    (scaleLanes k b s).physValid.getLsbD j =
      (decide (b ≤ j.val ∧ j.val < b + 3) || s.physValid.getLsbD j) := by
  have hmask : ∀ b < 4, ∀ j < 6, (tripleMask b).getLsbD j = decide (b ≤ j ∧ j < b + 3) := by decide
  rw [scaleLanes, setPhysValid_physValid, BitVec.getLsbD_or, hmask b (by omega) j.val j.isLt,
    Bool.or_comm]

theorem toNat_of_legalBase {b : Byte} (hb : legalBase b) : b.toNat + 2 < 6 := by
  obtain rfl | rfl := hb <;> decide

theorem coherent_scaleLanes {s : State} {k : Half → F64} {b : Nat} (hs : Coherent s) (hb : b + 2 < 6)
    (hcount : b + 3 ≤ s.wordCount.toNat) (hk : ∀ w, ScaledFrom w (k w)) :
    Coherent (scaleLanes k b s) where
  wordCountLegal := hs.wordCountLegal
  parsed := hs.parsed
  bcntIsPayLen := hs.bcntIsPayLen
  wordsFit := hs.wordsFit
  wordsCurrent := hs.wordsCurrent
  physCurrent j hj := by
    rw [scaleLanes_physValid k hb, Bool.or_eq_true, decide_eq_true_iff] at hj
    rw [scaleLanes_phys k hb]
    by_cases hlane : b ≤ j.val ∧ j.val < b + 3
    · rw [if_pos hlane]
      exact ⟨by change j.val < s.wordCount.toNat; omega, hk _⟩
    · rw [if_neg hlane]
      exact hs.physCurrent j (hj.resolve_left hlane)

/-! ### The obligations -/

/-- Every command keeps the invariant. -/
theorem Coherent.exec {s t : State} {i : Instr} (hs : Coherent s) (h : exec i s = .next t) :
    Coherent t := by
  cases exec_effect h with
  | code | crc | buildReq | loadVendor => exact hs.congr rfl
  | badLength | badFrame => exact (coherent_clearParse s).congr rfl
  | parsed hv => exact coherent_of_no_words rfl rfl (fun _ => ⟨hv, rfl⟩) (frameHeader_bcnt hv)
  | noWords => exact coherent_of_no_words rfl rfl hs.parsed hs.bcntIsPayLen
  | words n hn hlen => exact (coherent_decodeWords hs hn hlen).congr rfl
  | scaled b k _ hb hcount hk =>
    exact (coherent_scaleLanes hs (toNat_of_legalBase hb) hcount hk).congr rfl
  | softReset => exact coherent_of_no_words rfl rfl (absurd · Bool.false_ne_true) rfl

/-- Settles O54: taking and answering an access touches no field of the invariant, and register writes and
commands keep it. -/
theorem stepKeepsTheInvariant : Obligations.StepKeepsTheInvariant := by
  intro s t hs h
  have taken (rest : List BusAccess) (r : BusResponse) : Coherent (s.taken rest r) := hs.congr rfl
  cases step_kind h with
  | idle => exact hs
  | answered r hp => exact taken _ r
  | written => exact (taken _ _).writeReg _ _
  | illegal => exact hs.congr rfl
  | command hp hx => exact (taken _ _).exec hx

/-- Settles O53: at reset no frame is parsed and no word is counted. -/
theorem resetMeetsTheInvariant : Obligations.ResetMeetsTheInvariant :=
  coherent_of_no_words rfl rfl (absurd · Bool.false_ne_true) rfl

end Sys2Proof.Machine
end

section
/-! PROOFS. The register map and what registers read (10_state.md R19 to R37, R42): offsets, read-back of written
fields, reset values, and the three obligations. -/

namespace Sys2Proof.Machine

/-! ### Offsets -/

theorem regAt_word (i : Fin 6) : regAt (0x040 + 4 * i.val) = .word i := by
  have hi := i.isLt
  unfold regAt
  rw [if_neg (by omega), dif_pos (by omega)]
  simp

theorem regAt_physLo (i : Fin 6) : regAt (0x080 + 8 * i.val) = .physLo i := by
  have hi := i.isLt
  unfold regAt
  rw [if_neg (by omega), dif_neg (by omega), dif_pos (by omega), if_pos (by omega)]
  simp

theorem regAt_physHi (i : Fin 6) : regAt (0x084 + 8 * i.val) = .physHi i := by
  have hi := i.isLt
  unfold regAt
  rw [if_neg (by omega), dif_neg (by omega), dif_pos (by omega), if_neg (by omega)]
  simp only [BlockReg.physHi.injEq, Fin.ext_iff]
  omega

/-- Below 0x040 the reserved offsets are those after RESP1. -/
theorem controlReg_eq_reserved {off : Nat} (hlt : off < 0x040) (ha : off % 4 = 0) :
    controlReg off = .reserved ↔ 0x024 < off := by
  have table : ∀ o < 0x040, o % 4 = 0 → (controlReg o = .reserved ↔ 0x024 < o) := by decide
  exact table off hlt ha

/-- An aligned offset is reserved exactly outside the five ranges of the map (10_state.md R19). -/
theorem regAt_eq_reserved {off : Nat} (ha : off % 4 = 0) : regAt off = .reserved ↔
    ¬ (off ≤ 0x024 ∨ (0x040 ≤ off ∧ off ≤ 0x054) ∨ (0x080 ≤ off ∧ off ≤ 0x0AC) ∨
      (0x400 ≤ off ∧ off ≤ 0x80C) ∨ (0x1000 ≤ off ∧ off ≤ 0x140C)) := by
  by_cases hlow : off < 0x040
  · rw [regAt, if_pos hlow, controlReg_eq_reserved hlow ha]
    omega
  · rw [regAt, if_neg hlow]
    split_ifs
    all_goals simp only [false_iff, true_iff, not_not]
    all_goals omega

/-! ### Fields put back in their place -/

/-- A field taken from a word and put back at its place is the word under the field's mask. -/
theorem extractLsb'_shiftLeft (v : Word) (k n : Nat) :
    (v.extractLsb' k n).setWidth 32 <<< k = v &&& ((BitVec.allOnes n).setWidth 32 <<< k) := by
  ext i hi
  by_cases hk : i < k
  · simp [hk]
  · by_cases hn : i - k < n
    · simp [hi, hk, hn, show k + (i - k) = i by omega]
    · simp [hk, hn]

theorem extractLsb'_zero (v : Word) (n : Nat) :
    (v.extractLsb' 0 n).setWidth 32 = v &&& (BitVec.allOnes n).setWidth 32 := by
  simpa using extractLsb'_shiftLeft v 0 n

theorem ofBool_getLsbD (v : Word) (k : Nat) : BitVec.ofBool (v.getLsbD k) = v.extractLsb' k 1 := by
  ext i hi
  obtain rfl : i = 0 := by omega
  simp

/-- A read-write register reads back the fields written (20_memory.md R46). -/
theorem readReg_writeReg_same {r : BlockReg} (h : isReadWrite r = true) (v : Word) (s : State) :
    readReg r (writeReg r v s) = v &&& fieldMask r := by
  cases r with
  | config =>
    simp only [readReg, writeReg, setConfig_config, ofBool_getLsbD, extractLsb'_shiftLeft,
      extractLsb'_zero, ← BitVec.and_or_distrib_left]
    rfl
  | req0 | req1 =>
    simp only [readReg, writeReg, setReq_req, extractLsb'_shiftLeft, extractLsb'_zero,
      ← BitVec.and_or_distrib_left]
    rfl
  | txLen | rxLen => exact extractLsb'_zero v 9
  | txbuf | rxbuf =>
    simp only [readReg, writeReg, setTx_tx, setParseOk_rx, setRx_rx, Fin.getElem_fin,
      Vector.getElem_set_self, extractLsb'_zero]
    rfl
  | cmd | status | crc | resp0 | resp1 | word | physLo | physHi | reserved => contradiction

/-- A register write leaves what every other register reads, but for STATUS (20_memory.md R49). -/
theorem readReg_writeReg_ne {q r : BlockReg} (hqr : q ≠ r) (hq : q ≠ .status) (v : Word) (s : State) :
    readReg q (writeReg r v s) = readReg q s := by
  cases r with
  | config | req0 | req1 | txLen | rxLen => cases q <;> simp_all [readReg, writeReg]
  | txbuf i =>
    cases q with
    | txbuf j =>
      have hij : i.val ≠ j.val := fun h => hqr (congrArg _ (Fin.ext h.symm))
      simp [readReg, writeReg, Vector.getElem_set_ne _ _ hij]
    | status => contradiction
    | _ => rfl
  | rxbuf i =>
    cases q with
    | rxbuf j =>
      have hij : i.val ≠ j.val := fun h => hqr (congrArg _ (Fin.ext h.symm))
      simp [readReg, writeReg, Vector.getElem_set_ne _ _ hij]
    | status => contradiction
    | _ => rfl
  | cmd | status | crc | resp0 | resp1 | word | physLo | physHi | reserved => rfl

/-- STATUS reads as before where the receive side is not written (10_state.md R25). -/
theorem statusWord_writeReg {r : BlockReg} (h : isReceive r = false) (v : Word) (s : State) :
    statusWord (writeReg r v s) = statusWord s := by
  cases r with
  | rxLen | rxbuf => contradiction
  | _ => rfl

/-- A word without a bit of a mask is kept whole by the mask's complement. -/
theorem and_not_eq_self {w : Nat} {x m : BitVec w} (h : x &&& m = 0) : x &&& ~~~ m = x := by
  calc x &&& ~~~ m = (x &&& ~~~ m) ||| (x &&& m) := by rw [h]; simp
    _ = x &&& (~~~ m ||| m) := BitVec.and_or_distrib_left.symm
    _ = x := by simp [BitVec.or_comm]

/-- Clearing PARSE_OK clears bit 24 of STATUS and leaves its other bits (10_state.md R21). -/
theorem statusWord_setParseOk_false (s : State) :
    statusWord (s.setParseOk false) = statusWord s &&& 0xFEFFFFFF := by
  have hlow := or_and_eq_zero (or_and_eq_zero
    (lowField_and_eq_zero (resultBits s.code) 0x01000000 (by decide))
    (field_and_eq_zero s.wordCount 8 _ (by decide))) (field_and_eq_zero s.physValid 16 _ (by decide))
  have hbit := field_and_eq_zero (BitVec.ofBool s.parseOk) 24 0xFEFFFFFF (by decide)
  rw [statusWord, statusWord, BitVec.and_or_distrib_right, hbit]
  simp only [setParseOk_code, setParseOk_wordCount, setParseOk_physValid, setParseOk_parseOk]
  exact congrArg (· ||| 0) (and_not_eq_self hlow).symm

theorem statusWord_writeReg_of_isReceive {r : BlockReg} (h : isReceive r = true) (v : Word) (s : State) :
    statusWord (writeReg r v s) = statusWord s &&& 0xFEFFFFFF := by
  cases r with
  | rxLen | rxbuf => exact statusWord_setParseOk_false s
  | _ => contradiction

/-! ### The obligations -/

/-- Settles O13: each range of the map is one branch of `regAt`. -/
theorem registerMapIsTheTable : Obligations.RegisterMapIsTheTable :=
  ⟨rfl, rfl, rfl, rfl, rfl, rfl, rfl, rfl, rfl, rfl,
    fun i => ⟨regAt_word i, regAt_physLo i, regAt_physHi i⟩,
    fun i => ⟨regAt_txbuf i, regAt_rxbuf i⟩, fun _ ha _ => regAt_eq_reserved ha⟩

/-- Settles O15: a write puts each field where it is read from, every other register reads fields that the write
leaves, and STATUS changes by its PARSE_OK bit only. -/
theorem writtenFieldsReadBack : Obligations.WrittenFieldsReadBack :=
  fun _ v s hr => ⟨readReg_writeReg_same hr v s, fun _ hqr hq => readReg_writeReg_ne hqr hq v s,
    fun h => statusWord_writeReg h v s, fun h => statusWord_writeReg_of_isReceive h v s⟩

/-- Settles O52: the fields of the reset state are all 0 but CRC. -/
theorem resetRegisterValues : Obligations.ResetRegisterValues := by
  refine ⟨rfl, rfl, rfl, rfl, rfl, rfl, rfl, rfl, rfl, fun i => ⟨?_, ?_, ?_⟩⟩
  all_goals simp [readReg, State.reset]

end Sys2Proof.Machine
end

section
/-! PROOFS. The CRC function as an operation on words (40_crc.md R79, R83): it loses nothing, it shifts a word
whose low bits are 0, and the four obligations on CRC_BYTE and on sequences of bytes. -/

namespace Sys2Proof.Machine

/-! ### The shift step -/

/-- Bit 15 of a shift step is the bit shifted out, for it is set in the polynomial (40_crc.md R79). -/
theorem crcShift_getLsbD_fifteen (c : Half) : (crcShift c).getLsbD 15 = c.getLsbD 0 := by
  unfold crcShift
  split <;> simp_all [crcPoly]

/-- The shift step loses nothing: what it shifts out stands in bit 15. -/
theorem crcShift_injective : Function.Injective crcShift := by
  intro c d h
  have hlow : c.getLsbD 0 = d.getLsbD 0 := by
    rw [← crcShift_getLsbD_fifteen, h, crcShift_getLsbD_fifteen]
  have hshift : c >>> 1 = d >>> 1 := by
    unfold crcShift at h
    rw [hlow] at h
    split at h
    · exact (BitVec.xor_left_inj crcPoly).1 h
    · exact h
  ext i hi
  cases i with
  | zero => simpa using hlow
  | succ j => simpa [hi, Nat.add_comm 1 j] using congrArg (fun x : Half => x.getLsbD j) hshift

theorem crcShifts_injective (k : Nat) : Function.Injective (crcShifts k) := by
  induction k with
  | zero => exact Function.injective_id
  | succ k ih => exact ih.comp crcShift_injective

/-- While the bits shifted out are 0, the steps are a plain shift. -/
theorem crcShifts_eq_ushiftRight {k : Nat} {c : Half} (h : ∀ i < k, c.getLsbD i = false) :
    crcShifts k c = c >>> k := by
  induction k generalizing c with
  | zero => simp [crcShifts]
  | succ k ih =>
    have hstep : crcShift c = c >>> 1 := if_neg (Bool.eq_false_iff.1 (h 0 k.succ_pos))
    have hrest : ∀ i < k, (c >>> 1).getLsbD i = false := fun i hi => by
      simpa using h (1 + i) (by omega)
    rw [crcShifts, hstep, ih hrest, ← BitVec.shiftRight_add, Nat.add_comm]

/-! ### One byte -/

theorem crcStep_left_injective (b : Byte) : Function.Injective fun c => crcStep c b := by
  intro c d h
  exact BitVec.xor_left_inj _ |>.1 (crcShifts_injective 8 h)

theorem crcStep_right_injective (c : Half) : Function.Injective (crcStep c) := by
  intro b b' h
  have hx := BitVec.xor_right_inj _ |>.1 (crcShifts_injective 8 h)
  ext i hi
  simpa [hi, show i < 16 by omega] using congrArg (fun x : Half => x.getLsbD i) hx

/-- The byte equal to the low half of CRC leaves the high half, moved down. -/
theorem crcStep_lowByte (c : Half) : crcStep c (c.extractLsb' 0 8) = c >>> 8 := by
  have hlow : ∀ i < 8, (c ^^^ (c.extractLsb' 0 8).setWidth 16).getLsbD i = false := by
    intro i hi
    simp [hi, show i < 16 by omega]
  rw [crcStep, crcShifts_eq_ushiftRight hlow]
  ext i hi
  simp

/-- A CRC fed with its own two bytes, low byte first, is 0 (40_crc.md R83). -/
theorem crcBytes_own_bytes (c : Half) :
    crcBytes c [c.extractLsb' 0 8, c.extractLsb' 8 8] = 0 := by
  have hhigh : c.extractLsb' 8 8 = (c >>> 8).extractLsb' 0 8 := by
    ext i hi
    simp
  change crcStep (crcStep c _) _ = 0
  rw [crcStep_lowByte, hhigh, crcStep_lowByte, ← BitVec.shiftRight_add]
  exact BitVec.ushiftRight_eq_zero le_rfl

/-! ### Sequences of bytes -/

theorem crcBytes_append (c : Half) (p q : List Byte) :
    crcBytes c (p ++ q) = crcBytes (crcBytes c p) q :=
  List.foldl_append

theorem crcBytes_left_injective (s : List Byte) : Function.Injective fun c => crcBytes c s := by
  induction s with
  | nil => exact Function.injective_id
  | cons b s ih => exact ih.comp (crcStep_left_injective b)

/-- A CRC_BYTE for each byte of a sequence, from any state: CRC goes over the sequence, and CODE is OK once there
was a byte. -/
theorem run_crcBytes (bytes : List Byte) {s : State} {rest : List BusAccess} (hcode : s.code = .ok)
    (hp : s.pending = (bytes.map fun b => command (.crcByte b)) ++ rest) :
    ∃ t, core.run bytes.length s = .next t ∧
      t = { s with crc := crcBytes s.crc bytes, code := .ok, pending := rest, log := t.log } := by
  induction bytes generalizing s with
  | nil =>
    refine ⟨s, rfl, ?_⟩
    obtain rfl : s.pending = rest := hp
    rw [← hcode]
    rfl
  | cons b bytes ih =>
    obtain ⟨t, hrun, ht⟩ := ih (s := { s with
      pending := (bytes.map fun b => command (.crcByte b)) ++ rest, log := .done :: s.log,
      crc := crcStep s.crc b, code := .ok }) rfl rfl
    exact ⟨t, (core_run_succ _ (step_crcByte hp)).trans hrun, ht⟩

/-! ### The obligations -/

/-- Settles O22: CRC_BYTE is `crcStep` of the register and the operand. -/
theorem crcByteFeedsOneByte : Obligations.CrcByteFeedsOneByte :=
  ⟨fun _ _ => rfl, fun _ => rfl, by decide⟩

/-- Settles O23: CRC_INIT leaves the initial value, and the bytes are fed one by one from there. -/
theorem crcByteSequenceLeavesCrc16 : Obligations.CrcByteSequenceLeavesCrc16 := by
  intro s bytes rest hp
  obtain ⟨t, hrun, ht⟩ := run_crcBytes bytes (rest := rest) (s := ((s.taken
    ((bytes.map fun b => command (.crcByte b)) ++ rest) .done).setCrc 0xFFFF).setCode .ok) rfl rfl
  have hinit := (step_command (i := .crcInit) hp rfl).trans (exec_crcInit _)
  exact ⟨t, Nat.add_comm 1 _ ▸ (core_run_succ _ hinit).trans hrun, ht⟩

/-- Settles O25: the two bytes appended are those of the CRC they are fed to. -/
theorem crcResidueIsZero : Obligations.CrcResidueIsZero := by
  intro s
  rw [crc16, crcBytes_append]
  exact crcBytes_own_bytes _

/-- Settles O26: the step is injective in the byte, and what follows it is injective in the CRC. -/
theorem crcDetectsEveryOneByteChange : Obligations.CrcDetectsEveryOneByteChange := by
  intro p q b b' hb h
  rw [crc16, crc16, crcBytes_append, crcBytes_append] at h
  exact hb (crcStep_right_injective _ (crcBytes_left_injective q h))

end Sys2Proof.Machine
end

section
/-! PROOFS. PARSE and the transmit side (41_frame.md R88 to R93): what PARSE answers to valid and to other frames,
frames given by their bytes, LOAD_VENDOR, and the seven obligations. -/

namespace Sys2Proof.Machine

/-! ### The two outcomes of PARSE -/

theorem exec_parse_of_validFrame {s : State} (hv : ValidFrame s) : exec .parse s = .next
    ((((s.clearParse.setCrc s.frameCrc).setResp s.frameHeader).setParseOk true).setCode .ok) := by
  obtain ⟨h5, h260, hc, hb⟩ := validFrame_iff.1 hv
  rw [exec, execParse, if_neg h5.not_gt, if_neg h260.not_gt, if_neg (not_not.2 hc), if_neg (not_not.2 hb),
    finish]

/-- Every other frame is reported and leaves PARSE_OK 0. -/
theorem exec_parse_of_not_validFrame {s t : State} (hv : ¬ ValidFrame s) (h : exec .parse s = .next t) :
    t.code ≠ .ok ∧ t.parseOk = false := by
  obtain ⟨-, rfl⟩ | ⟨-, rfl⟩ | ⟨-, -, -, rfl⟩ | ⟨-, -, -, -, rfl⟩ | ⟨h5, h260, hc, hb, -⟩ :=
    execParse_cases h
  case inr.inr.inr.inr => exact absurd (validFrame_iff.2 ⟨h5, h260, hc, hb⟩) hv
  all_goals exact ⟨nofun, rfl⟩

/-- PARSE reads RXBUF and RX_LEN only: it writes the same values, and CRC or not, in every state that agrees with
`s` on those (41_frame.md R90). -/
theorem exec_parse_uniform (s : State) : ∃ code ok resp crc, ∀ u : State, u.rx = s.rx → u.rxLen = s.rxLen →
    exec .parse u = .next { u with
      wordCount := 0, physValid := 0, parseOk := ok, resp := resp, crc := Option.getD crc u.crc, code := code } := by
  have hlen {u : State} (h : u.rxLen = s.rxLen) : u.frameLen = s.frameLen := frameLen_congr h
  have hcrc {u : State} (hrx : u.rx = s.rx) (h : u.rxLen = s.rxLen) : u.frameCrc = s.frameCrc :=
    frameCrc_congr hrx h
  have hok {u : State} (hrx : u.rx = s.rx) (h : u.rxLen = s.rxLen) : ChecksumOk u ↔ ChecksumOk s := by
    rw [checksumOk_iff, checksumOk_iff, hcrc hrx h, checksumMatches_congr hrx h]
  by_cases h5 : s.frameLen < 5
  · exact ⟨.tooShort, false, ⟨0, 0, 0, 0⟩, none, fun u _ hl => exec_parse_of_lt (by rwa [hlen hl])⟩
  by_cases h260 : 260 < s.frameLen
  · exact ⟨.frameTooLong, false, ⟨0, 0, 0, 0⟩, none, fun u _ hl => exec_parse_of_gt (by rwa [hlen hl])⟩
  by_cases hc : ChecksumOk s
  · by_cases hb : (s.rxByte 2).toNat = s.frameLen - 5
    · refine ⟨.ok, true, s.frameHeader, some s.frameCrc, fun u hrx hl => ?_⟩
      have hv : ValidFrame s := ⟨Nat.not_lt.1 h5, Nat.not_lt.1 h260, hc, hb⟩
      rw [exec_parse_of_validFrame ((validFrame_congr hrx hl).2 hv), hcrc hrx hl, frameHeader_congr hrx hl]
      rfl
    · refine ⟨.bytecountMismatch, false, ⟨0, 0, 0, 0⟩, some s.frameCrc, fun u hrx hl => ?_⟩
      have hu := hlen hl
      rw [exec_parse_of_bytecount_ne (by omega) (by omega) ((hok hrx hl).2 hc)
        (by rwa [rxByte_congr hrx, hu]), hcrc hrx hl]
      rfl
  · refine ⟨.checksumMismatch, false, ⟨0, 0, 0, 0⟩, some s.frameCrc, fun u hrx hl => ?_⟩
    have hu := hlen hl
    rw [exec_parse_of_not_checksumOk (by omega) (by omega) (mt (hok hrx hl).1 hc), hcrc hrx hl]
    rfl

/-- With a right checksum the byte-count alone decides between the last two ends of PARSE (41_frame.md R93). -/
theorem exec_parse_of_checksumOk {s t : State} (h : exec .parse s = .next t) (h5 : 5 ≤ s.rxLen.toNat)
    (h260 : s.rxLen.toNat ≤ 260) (hc : ChecksumOk s) :
    ((s.rxByte 2).toNat = s.rxLen.toNat - 5 →
      t.code = .ok ∧ t.parseOk = true ∧ t.resp.payLen.toNat = s.rxLen.toNat - 5) ∧
    ((s.rxByte 2).toNat ≠ s.rxLen.toNat - 5 → t.code = .bytecountMismatch ∧ t.parseOk = false) := by
  refine ⟨fun hb => ?_, fun hb => ?_⟩
  · cases (exec_parse_of_validFrame ⟨h5, h260, hc, hb⟩).symm.trans h
    exact ⟨rfl, rfl, Nat.mod_eq_of_lt (hb ▸ (s.rxByte 2).isLt)⟩
  · cases (exec_parse_of_bytecount_ne h5 h260 hc hb).symm.trans h
    exact ⟨rfl, rfl⟩

/-! ### LOAD_VENDOR -/

/-- TXBUF after LOAD_VENDOR: the four bytes of the table entry, then the bytes that were there (41_frame.md R88). -/
theorem storeTx_vendorCommand (s : State) (k : Fin 4) :
    (s.storeTx (vendorCommand k)).tx.toList = vendorCommand k ++ s.tx.toList.drop 4 :=
  storeAt_zero_toList s.tx (vendorCommand k) (by simp [vendorCommand])

/-- The three writes of LOAD_VENDOR leave every other register alone, whatever is stored. -/
theorem eq_of_storeTx_setTxLen_setCode {s t : State} {bytes : List Byte} {n : FrameLen} {code : ResultCode}
    (h : t = ((s.storeTx bytes).setTxLen n).setCode code) :
    t = { s with tx := t.tx, txLen := n, code := code } := by
  subst h
  rfl

theorem exec_loadVendor (s : State) (k : Fin 4) : exec (.loadVendor (BitVec.ofNat 8 k)) s =
    .next (((s.storeTx (vendorCommand k)).setTxLen 4).setCode .ok) := by
  have hk : (BitVec.ofNat 8 k.val).toNat = k.val := Nat.mod_eq_of_lt (by omega)
  have hlegal : legalVendorIndex (BitVec.ofNat 8 k.val) := by
    rw [legalVendorIndex, hk]
    omega
  have hindex : (⟨_, Nat.lt_succ_of_le hlegal⟩ : Fin 4) = k := Fin.ext hk
  rw [exec, execLoadVendor, dif_pos hlegal, hindex, finish]

theorem encode_loadVendor (k : Fin 4) :
    encode (.loadVendor (BitVec.ofNat 8 k)) = (BitVec.ofNat 32 k <<< 8) ||| 0x11 := by
  revert k
  decide

/-! ### Frames given by their bytes -/

/-- A byte of the frame, read from the list of its bytes. -/
theorem rxByte_of_rxFrame {s : State} {n i : Nat} (hi : i < n) :
    s.rxByte i = (s.rxFrame n)[i]?.getD 0 := by
  simp [State.rxByte, State.rxFrame, List.getElem?_take_of_lt hi]

theorem rxFrame_take {s : State} {m n : Nat} (h : m ≤ n) : (s.rxFrame n).take m = s.rxFrame m := by
  simp [State.rxFrame, List.take_take, h]

/-- Frames with the same bytes are equal. -/
theorem rxFrame_ext {s u : State} {n : Nat} (h : ∀ i < n, u.rxByte i = s.rxByte i) :
    u.rxFrame n = s.rxFrame n := by
  refine List.ext_getElem (by simp [State.rxFrame]) fun i hi _ => ?_
  obtain ⟨hin, hi260⟩ : i < n ∧ i < 260 := by simpa [State.rxFrame] using hi
  simpa [State.rxFrame, rxByte_eq _ hi260] using h i hin

theorem rxByte_setRx_setIfInBounds (s : State) (v : ByteBuffer) {k : Nat} (hk : k < 260) (b : Byte) (i : Nat) :
    (s.setRx (v.setIfInBounds k b)).rxByte i = if k = i then b else (s.setRx v).rxByte i := by
  simp only [State.rxByte, setRx_rx, Vector.getElem?_setIfInBounds, hk, if_true]
  split <;> rfl

section
variable {s : State} {addr func : Byte} {payload : List Byte} (hp : payload.length ≤ 255)
  (hlen : s.rxLen = BitVec.ofNat 9 (payload.length + 5))
include hp hlen

theorem frameLen_of_responseFrame : s.frameLen = payload.length + 5 := by
  rw [State.frameLen, hlen, BitVec.toNat_ofNat, Nat.mod_eq_of_lt (by omega)]

variable (hrx : s.rxFrame (payload.length + 5) = responseFrame addr func payload)
include hrx

omit hp hlen in
theorem rxByte_of_responseFrame {i : Nat} (hi : i < payload.length + 5) :
    s.rxByte i = (responseFrame addr func payload)[i]?.getD 0 := by
  rw [rxByte_of_rxFrame hi, hrx]

/-- A response frame around a payload passes every check (30_encoding.md R72). -/
theorem validFrame_of_responseFrame : ValidFrame s := by
  have hl := frameLen_of_responseFrame hp hlen
  have hcrc : s.frameCrc = crc16 ([addr, func, BitVec.ofNat 8 payload.length] ++ payload) := by
    rw [State.frameCrc, hl, ← rxFrame_take (n := payload.length + 5) (by omega), hrx, responseFrame]
    exact congrArg crc16 (List.take_left' (by simp))
  refine validFrame_iff.2 ⟨by omega, by omega, checksumMatches_iff.2 ⟨?_, ?_⟩, ?_⟩
  · rw [hl, hcrc, rxByte_of_responseFrame hrx (by omega)]
    simp [responseFrame, lowByte]
  · rw [hl, hcrc, rxByte_of_responseFrame hrx (by omega)]
    simp [responseFrame, highByte]
  · rw [hl, rxByte_of_responseFrame hrx (by omega)]
    simp [responseFrame, Nat.mod_eq_of_lt (show payload.length < 256 by omega)]

theorem frameHeader_of_responseFrame :
    s.frameHeader = ⟨addr, func, BitVec.ofNat 8 payload.length, BitVec.ofNat 8 payload.length⟩ := by
  rw [State.frameHeader, frameLen_of_responseFrame hp hlen, rxByte_of_responseFrame hrx (by omega),
    rxByte_of_responseFrame hrx (by omega), rxByte_of_responseFrame hrx (by omega)]
  simp [responseFrame]

/-- PARSE accepts the frame and records the header inserted and the payload length. -/
theorem exec_parse_of_responseFrame : exec .parse s = .next
    ((((s.clearParse.setCrc s.frameCrc).setResp ⟨addr, func, BitVec.ofNat 8 payload.length,
      BitVec.ofNat 8 payload.length⟩).setParseOk true).setCode .ok) := by
  rw [exec_parse_of_validFrame (validFrame_of_responseFrame hp hlen hrx),
    frameHeader_of_responseFrame hp hlen hrx]

end

/-! ### The obligations -/

/-- Settles O28: the vendor command is stored at the start of TXBUF. -/
theorem loadVendorCopiesTheTableEntry : Obligations.LoadVendorCopiesTheTableEntry :=
  fun s k => ⟨_, exec_loadVendor s k, storeTx_vendorCommand s k, eq_of_storeTx_setTxLen_setCode rfl,
    encode_loadVendor k⟩

/-- Settles O29: a valid frame passes every check, and the checks change nothing. -/
theorem parseAcceptsAValidFrame : Obligations.ParseAcceptsAValidFrame :=
  fun _ hv => exec_parse_of_validFrame hv

/-- Settles O31: a valid frame meets the one end of PARSE that sets PARSE_OK, every other frame one that reports an
error. -/
theorem parseSucceedsExactlyOnValidFrames : Obligations.ParseSucceedsExactlyOnValidFrames := by
  intro s t h
  by_cases hv : ValidFrame s
  · cases (exec_parse_of_validFrame hv).symm.trans h
    exact ⟨iff_of_true rfl hv, iff_of_true rfl hv⟩
  · obtain ⟨hcode, hok⟩ := exec_parse_of_not_validFrame hv h
    exact ⟨iff_of_false hcode hv, iff_of_false (by simp [hok]) hv⟩

/-- Settles O33: a second PARSE meets the same frame, and writes the same values over what the first one wrote. -/
theorem parseAgainGivesTheSame : Obligations.ParseAgainGivesTheSame := by
  intro s t h
  obtain ⟨hrx, -, -⟩ := exec_keeps_host h
  obtain ⟨-, -, hlen⟩ := exec_keeps_operands h nofun
  obtain ⟨code, ok, resp, crc, hu⟩ := exec_parse_uniform s
  refine (hu t hrx hlen).trans ?_
  cases (hu s rfl rfl).symm.trans h
  cases crc <;> rfl

/-- Settles O34: PARSE writes the same whatever the request registers hold, and with a right checksum the byte-count
alone decides between its last two ends. -/
theorem parseChecksNoRequest : Obligations.ParseChecksNoRequest := by
  refine ⟨fun s t r h => ?_, fun s t => exec_parse_of_checksumOk, fun s t h hlen hc => ?_⟩
  · obtain ⟨code, ok, resp, crc, hu⟩ := exec_parse_uniform s
    cases (hu s rfl rfl).symm.trans h
    exact hu { s with req := r } rfl rfl
  · have h5 : s.rxLen.toNat = 5 := congrArg BitVec.toNat hlen
    obtain ⟨hgood, hbad⟩ := exec_parse_of_checksumOk h (by omega) (by omega) hc
    rw [h5] at hgood hbad
    refine ⟨fun hb => ?_, fun hb => ?_⟩
    · obtain ⟨hcode, -, hpay⟩ := hgood (congrArg BitVec.toNat hb)
      exact ⟨hcode, BitVec.eq_of_toNat_eq hpay⟩
    · exact (hbad fun hz => hb (BitVec.eq_of_toNat_eq hz)).1

/-- Settles O35: the checksum is computed over the bytes before the last two, so it is the old one, which the new
bytes are not. -/
theorem checksumTamperIsReported : Obligations.ChecksumTamperIsReported := by
  intro s p q hv hpq
  obtain ⟨h5, h260, ⟨hlo, hhi⟩, -⟩ := hv
  set u := s.setRx ((s.rx.setIfInBounds (s.rxLen.toNat - 2) p).setIfInBounds (s.rxLen.toNat - 1) q) with hu
  have hbyte (i : Nat) : u.rxByte i =
      if s.rxLen.toNat - 1 = i then q else if s.rxLen.toNat - 2 = i then p else s.rxByte i := by
    rw [hu, rxByte_setRx_setIfInBounds _ _ (by omega), rxByte_setRx_setIfInBounds _ _ (by omega)]
    rfl
  have hcrc : checksumOver u s.rxLen.toNat = checksumOver s s.rxLen.toNat :=
    congrArg crc16 (rxFrame_ext fun i hi => by rw [hbyte, if_neg (by omega), if_neg (by omega)])
  have hbad : ¬ ChecksumOk u := by
    rintro ⟨hp, hq⟩
    rw [setRx_rxLen, hcrc, ← hlo, hbyte, if_neg (by omega), if_pos rfl] at hp
    rw [setRx_rxLen, hcrc, ← hhi, hbyte, if_pos rfl] at hq
    exact hpq.elim (· hp) (· hq)
  exact ⟨_, exec_parse_of_not_checksumOk (s := u) h5 h260 hbad, rfl, rfl, hcrc⟩

/-- Settles O36: the frame is valid, its header is the one inserted, and PARSE leaves RXBUF as it is. -/
theorem parseReturnsTheInsertedPayload : Obligations.ParseReturnsTheInsertedPayload := by
  intro s addr func payload hp hlen hrx
  have hpay : (BitVec.ofNat 8 payload.length).toNat = payload.length := Nat.mod_eq_of_lt (by omega)
  refine ⟨_, exec_parse_of_responseFrame hp hlen hrx, rfl, rfl, rfl, rfl, hpay, ?_⟩
  calc (s.rx.toList.drop 3).take (BitVec.ofNat 8 payload.length).toNat
      = (s.rxFrame (3 + payload.length)).drop 3 := by rw [hpay, State.rxFrame, List.drop_take]; simp
    _ = ((responseFrame addr func payload).take (3 + payload.length)).drop 3 := by
      rw [← hrx, List.take_take, State.rxFrame, Nat.min_eq_left (by omega)]
    _ = payload := by simp [responseFrame, List.drop_take]

end Sys2Proof.Machine
end

section
/-! PROOFS. The unpacker (42_unpack.md R96 to R104): DECODE_WORDS and the SCALE commands by their outcomes, the
value of a payload word, and the seven obligations. -/

namespace Sys2Proof.Machine

/-! ### Payload words -/

/-- Two bytes joined have the value of the first times 256 plus the second (20_memory.md R54). -/
theorem joinBytes_toNat (hi lo : Byte) : (joinBytes hi lo).toNat = 256 * hi.toNat + lo.toNat := by
  have hhi := hi.isLt
  have hshift : (hi.setWidth 16 <<< 8).toNat = 2 ^ 8 * hi.toNat := by
    rw [BitVec.toNat_shiftLeft, BitVec.toNat_setWidth_of_le (by decide), Nat.shiftLeft_eq, Nat.mul_comm,
      Nat.mod_eq_of_lt (by omega)]
  rw [joinBytes, BitVec.toNat_or, hshift, BitVec.toNat_setWidth_of_le (by decide),
    ← Nat.two_pow_add_eq_or_of_lt lo.isLt]

/-- Read as signed, the value is 65536 less where the first byte has its top bit set (00_scope.md R9). -/
theorem joinBytes_toInt (hi lo : Byte) : (joinBytes hi lo).toInt =
    256 * hi.toNat + lo.toNat - (if 128 ≤ hi.toNat then 65536 else 0) := by
  have hlo := lo.isLt
  rw [BitVec.toInt_eq_toNat_cond, joinBytes_toNat]
  split <;> split <;> omega

/-! ### DECODE_WORDS -/

section
variable {s : State} {n : Byte} (hn : legalWordCount n)
include hn

theorem exec_decodeWords_of_short (hok : s.parseOk = true) (hlen : s.resp.payLen.toNat < 2 * n.toNat) :
    exec (.decodeWords n) s =
      .next (((s.setPhysValid 0).setWordCount 0).setCode .insufficientPayload) := by
  rw [exec, execDecodeWords, if_neg (not_not_intro hn), if_neg (by simp [hok]), if_pos hlen, raise]

theorem exec_decodeWords_of_payload (hok : s.parseOk = true) (hlen : 2 * n.toNat ≤ s.resp.payLen.toNat) :
    exec (.decodeWords n) s =
      .next ((((s.setPhysValid 0).setWords (storeAt s.words 0 (payloadWords s n.toNat))).setWordCount
        (n.setWidth 3)).setCode .ok) := by
  rw [exec, execDecodeWords, if_neg (not_not_intro hn), if_neg (by simp [hok]), if_neg hlen.not_gt, finish]

end

/-- A WORD register outside the words decoded is kept. -/
theorem storeAt_payloadWords_of_le (s : State) {n : Nat} (i : Fin 6) (hi : n ≤ i.val) :
    (storeAt s.words 0 (payloadWords s n))[i] = s.words[i] :=
  storeAt_outside _ _ _ _ i.isLt (.inr (by rw [payloadWords_length]; omega))

/-- The words decoded depend on the bytes of the payload only. -/
theorem payloadWords_congr {s u : State} {n : Nat}
    (h : ∀ j, 3 ≤ j → j < 3 + 2 * n → u.rxByte j = s.rxByte j) : payloadWords u n = payloadWords s n := by
  refine List.map_congr_left fun i hi => ?_
  have hin : i < n := List.mem_range.1 hi
  rw [payloadWord, payloadWord, h _ (by omega) (by omega), h _ (by omega) (by omega)]

/-! ### The SCALE commands -/

section
variable {k : Half → F64} {unset : Bool} {b : Byte} {s : State} (hb : legalBase b)
include hb

theorem scaleCommand_of_lt (hcount : s.wordCount.toNat < b.toNat + 3) :
    scaleCommand k unset b s = .next (s.setCode .wordsInvalid) := by
  rw [scaleCommand, if_neg (not_not_intro hb), if_pos hcount, raise]

variable (hcount : b.toNat + 3 ≤ s.wordCount.toNat)
include hcount

theorem scaleCommand_of_unset : scaleCommand k true b s = .next (s.setCode .scaleUnset) := by
  rw [scaleCommand, if_neg (not_not_intro hb), if_neg hcount.not_gt, if_pos rfl, raise]

theorem scaleCommand_of_set : scaleCommand k false b s = .next ((scaleLanes k b.toNat s).setCode .ok) := by
  rw [scaleCommand, if_neg (not_not_intro hb), if_neg hcount.not_gt, if_neg Bool.false_ne_true, finish]

/-- A SCALE command with enough valid words scales the lanes of its triple and keeps the others. -/
theorem scalesTriple_of_scaleCommand {i : Instr} (hi : exec i s = scaleCommand k false b s) :
    ScalesTriple s b i k := by
  have hlanes := toNat_of_legalBase hb
  refine ⟨_, hi.trans (scaleCommand_of_set hb hcount), fun j hj => ?_, fun j hj => ?_, rfl⟩
  · exact ⟨(scaleLanes_phys k hlanes s j).trans (if_pos hj),
      (scaleLanes_physValid k hlanes s j).trans (by rw [decide_eq_true hj, Bool.true_or])⟩
  · exact ⟨(scaleLanes_phys k hlanes s j).trans (if_neg hj),
      (scaleLanes_physValid k hlanes s j).trans (by rw [decide_eq_false hj, Bool.false_or])⟩

end

/-- PHYSj, PHYS_VALID and CODE after a SCALE command depend on WORDj and on no other WORD register. -/
theorem scaleCommand_lane {k : Half → F64} {unset : Bool} {b : Byte} {s t t' : State} {u : Vector Half 6}
    {j : Fin 6} (h : scaleCommand k unset b s = .next t)
    (h' : scaleCommand k unset b (s.setWords u) = .next t') (hu : u[j] = s.words[j]) :
    t'.phys[j] = t.phys[j] ∧ t'.physValid = t.physValid ∧ t'.code = t.code := by
  obtain ⟨hb, rfl⟩ | ⟨hb, hcount, rfl⟩ | ⟨hb, hcount, rfl, rfl⟩ | ⟨hb, hcount, rfl, rfl⟩ :=
    scaleCommand_cases h
  · cases (if_pos hb).symm.trans h'
    exact ⟨rfl, rfl, rfl⟩
  · cases (scaleCommand_of_lt (s := s.setWords u) hb hcount).symm.trans h'
    exact ⟨rfl, rfl, rfl⟩
  · cases (scaleCommand_of_unset (s := s.setWords u) hb hcount).symm.trans h'
    exact ⟨rfl, rfl, rfl⟩
  · cases (scaleCommand_of_set (s := s.setWords u) hb hcount).symm.trans h'
    have hlanes := toNat_of_legalBase hb
    refine ⟨?_, rfl, rfl⟩
    rw [setCode_phys, setCode_phys, scaleLanes_phys k hlanes, scaleLanes_phys k hlanes, setWords_words, hu,
      setWords_phys]

/-! ### The obligations -/

/-- Settles O38: the first n entries stored are the payload words, whose value is that of their two bytes. -/
theorem decodeWordsUnpacksThePayload : Obligations.DecodeWordsUnpacksThePayload := by
  intro s n hn hok hlen
  refine ⟨_, exec_decodeWords_of_payload hn hok hlen, fun i hi => ?_,
    fun i hi => storeAt_payloadWords_of_le s i hi, rfl⟩
  exact (congrArg _ (storeAt_payloadWords_of_lt s i hi)).trans (joinBytes_toNat _ _)

/-- Settles O39: the two errors stand before anything is stored. -/
theorem decodeWordsErrorsKeepTheWords : Obligations.DecodeWordsErrorsKeepTheWords :=
  fun _ _ hn => ⟨exec_decodeWords_of_parseOk_false hn, exec_decodeWords_of_short hn⟩

/-- Settles O40: a command that ended with OK stored the payload words, and a WORD register reads sign-extended. -/
theorem decodedWordsReadSigned : Obligations.DecodedWordsReadSigned := by
  intro s t n i hn hi h hcode
  obtain ⟨hbad, -⟩ | ⟨-, -, rfl⟩ | ⟨-, -, -, rfl⟩ | ⟨-, -, -, rfl⟩ := execDecodeWords_cases h
  · exact absurd hn hbad
  · exact absurd hcode nofun
  · exact absurd hcode nofun
  · have hword := storeAt_payloadWords_of_lt s i hi
    calc ((storeAt s.words 0 (payloadWords s n.toNat))[i].signExtend 32).toInt
        = (payloadWord s i).toInt := by rw [hword, BitVec.toInt_signExtend_of_le (by decide)]
      _ = _ := joinBytes_toInt _ _

/-- Settles O41: only the last outcome of DECODE_WORDS reads RXBUF, and only the bytes of the n words. -/
theorem decodeWordsReadsOnlyItsPayload : Obligations.DecodeWordsReadsOnlyItsPayload := by
  intro s t n r hr h
  obtain ⟨hn, rfl⟩ | ⟨hn, hok, rfl⟩ | ⟨hn, hok, hlen, rfl⟩ | ⟨hn, hok, hlen, rfl⟩ := execDecodeWords_cases h
  · exact if_pos hn
  · exact exec_decodeWords_of_parseOk_false (s := s.setRx r) hn hok
  · exact exec_decodeWords_of_short (s := s.setRx r) hn hok hlen
  · have hn6 : n.toNat ≤ 6 := by obtain rfl | rfl := hn <;> decide
    have hbytes (j : Nat) (hlo : 3 ≤ j) (hhi : j < 3 + 2 * n.toNat) :
        (s.setRx r).rxByte j = s.rxByte j := by
      rw [rxByte_eq _ (by omega), rxByte_eq _ (by omega)]
      exact hr ⟨j, by omega⟩ hlo hhi
    have hx := exec_decodeWords_of_payload (s := s.setRx r) hn hok hlen
    rw [payloadWords_congr hbytes] at hx
    exact hx

/-- Settles O42: each SCALE command is `scaleCommand` with its own scale, set for every divisor but 0. -/
theorem scaleCommandsWriteTheirTriple : Obligations.ScaleCommandsWriteTheirTriple := by
  intro s b hb hcount
  refine ⟨fun hdiv => scalesTriple_of_scaleCommand hb hcount ?_, scalesTriple_of_scaleCommand hb hcount rfl,
    scalesTriple_of_scaleCommand hb hcount rfl⟩
  rw [exec, execScaleAccel, decide_eq_false hdiv]

/-- Settles O43: the word count is checked first, and by the same check for the three commands. -/
theorem scaleErrorsChangeOnlyCode : Obligations.ScaleErrorsChangeOnlyCode := by
  intro s b hb
  refine ⟨fun hcount => ?_, fun hcount hdiv => ?_⟩
  · simp only [List.forall_mem_cons]
    exact ⟨scaleCommand_of_lt hb hcount, scaleCommand_of_lt hb hcount, scaleCommand_of_lt hb hcount,
      List.forall_mem_nil _⟩
  · rw [exec, execScaleAccel, decide_eq_true hdiv]
    exact scaleCommand_of_unset hb hcount

/-- Settles O49: each SCALE command is `scaleCommand`, with a scale that does not depend on the WORD registers. -/
theorem scaleLanesAreIndependent : Obligations.ScaleLanesAreIndependent := by
  intro s t t' b u j
  simp only [List.forall_mem_cons]
  exact ⟨scaleCommand_lane, scaleCommand_lane, scaleCommand_lane, List.forall_mem_nil _⟩

end Sys2Proof.Machine
end

section
/-! PROOFS. What commands report and what they do not read (60_exceptions.md R115, R117; 10_state.md R39): the codes
of each command, CODE and the transmit side, and the two obligations. -/

namespace Sys2Proof.Machine

/-! ### Result codes -/

/-- The codes of a SCALE command (60_exceptions.md R117). -/
theorem scaleCommand_code {k : Half → F64} {unset : Bool} {b : Byte} {s t : State} (hb : legalBase b)
    (h : scaleCommand k unset b s = .next t) :
    t.code = .ok ∨ t.code = .wordsInvalid ∨ (unset = true ∧ t.code = .scaleUnset) := by
  obtain ⟨hbad, -⟩ | ⟨-, -, rfl⟩ | ⟨-, -, hset, rfl⟩ | ⟨-, -, -, rfl⟩ := scaleCommand_cases h
  · exact absurd hb hbad
  · exact .inr (.inl rfl)
  · exact .inr (.inr ⟨hset, rfl⟩)
  · exact .inl rfl

/-- Settles O55: the outcomes of each command, with a legal operand, end with the codes of its row. -/
theorem commandsReportOnlyTheirCodes : Obligations.CommandsReportOnlyTheirCodes := by
  intro i s t hwf h
  cases i with
  | nop | crcInit | crcByte | buildReq | softReset =>
    cases h
    exact List.mem_singleton.2 rfl
  | crcRxbuf => obtain ⟨-, rfl⟩ | ⟨-, rfl⟩ := execCrcRxbuf_cases h <;> simp [possibleCodes]
  | loadVendor k =>
    obtain ⟨hbad, -⟩ | ⟨-, rfl⟩ := execLoadVendor_cases h
    · exact absurd (of_decide_eq_true hwf) hbad
    · exact List.mem_singleton.2 rfl
  | parse =>
    obtain ⟨-, rfl⟩ | ⟨-, rfl⟩ | ⟨-, -, -, rfl⟩ | ⟨-, -, -, -, rfl⟩ | ⟨-, -, -, -, rfl⟩ :=
      execParse_cases h <;> simp [possibleCodes]
  | decodeWords n =>
    obtain ⟨hbad, -⟩ | ⟨-, -, rfl⟩ | ⟨-, -, -, rfl⟩ | ⟨-, -, -, rfl⟩ := execDecodeWords_cases h
    case inl => exact absurd (of_decide_eq_true hwf) hbad
    all_goals simp [possibleCodes]
  | scaleAccel b =>
    obtain hc | hc | ⟨-, hc⟩ := scaleCommand_code (of_decide_eq_true hwf) h <;> simp [possibleCodes, hc]
  | scaleGyro b | scaleAngle b =>
    obtain hc | hc | ⟨hset, -⟩ := scaleCommand_code (of_decide_eq_true hwf) h
    case inr.inr => contradiction
    all_goals simp [possibleCodes, hc]

/-! ### Registers no command reads -/

/-- No command reads CODE, and every command writes it. -/
theorem exec_setCode (i : Instr) (s : State) (c : ResultCode) : exec i (s.setCode c) = exec i s := by
  cases i <;> rfl

/-- `s` with other contents of TXBUF and TX_LEN. -/
def State.setTransmit (s : State) (b : ByteBuffer) (n : FrameLen) : State := (s.setTx b).setTxLen n

/-- The run of `i` from `s` to `t` does not depend on TXBUF and TX_LEN: with other contents of them it does the same
to everything else, and each byte of TXBUF, and TX_LEN, is kept in both runs or the same in both. -/
def TransmitUnread (i : Instr) (s t : State) : Prop :=
  ∀ b n, ∃ b' n', exec i (s.setTransmit b n) = .next (t.setTransmit b' n') ∧
    (∀ k : Fin 260, (t.tx[k] = s.tx[k] ∧ b'[k] = b[k]) ∨ b'[k] = t.tx[k]) ∧
    ((t.txLen = s.txLen ∧ n' = n) ∨ n' = t.txLen)

/-- A command that writes neither TXBUF nor TX_LEN keeps them in both runs. -/
theorem transmitUnread_of_kept {i : Instr} {s t : State} (htx : t.tx = s.tx) (hlen : t.txLen = s.txLen)
    (h : ∀ b n, exec i (s.setTransmit b n) = .next (t.setTransmit b n)) : TransmitUnread i s t :=
  fun b n => ⟨b, n, h b n, fun _ => .inl ⟨by rw [htx], rfl⟩, .inl ⟨hlen, rfl⟩⟩

/-- A command that stores given bytes at the start of TXBUF and sets TX_LEN gives both the same new values. -/
theorem transmitUnread_of_stored {i : Instr} {s t : State} {bytes : List Byte} {len : FrameLen}
    (htx : t.tx = storeAt s.tx 0 bytes) (hlen : t.txLen = len)
    (h : ∀ b n, exec i (s.setTransmit b n) = .next (t.setTransmit (storeAt b 0 bytes) len)) :
    TransmitUnread i s t :=
  fun b n => ⟨_, len, h b n, fun k => htx ▸ storeAt_kept_or_same bytes s.tx b 0 k k.isLt, .inr hlen.symm⟩

/-- What BUILD_REQ stores and sets depends on the request registers only. -/
theorem exec_buildReq_uniform (r : RequestRegs) : ∃ bytes c, ∀ u : State, u.req = r → exec .buildReq u =
    .next ((((u.storeTx bytes).setTxLen 8).setCrc c).setCode .ok) :=
  ⟨requestFrame r, crc16 (requestHeader r), fun u hu => hu ▸ exec_buildReq u⟩

/-- What LOAD_VENDOR stores depends on its operand only. -/
theorem exec_loadVendor_uniform {k : Byte} (hk : legalVendorIndex k) : ∃ bytes, ∀ u : State,
    exec (.loadVendor k) u = .next (((u.storeTx bytes).setTxLen 4).setCode .ok) :=
  ⟨_, fun _ => dif_pos hk⟩

theorem scaleCommand_setTransmit {k : Half → F64} {unset : Bool} {c : Byte} {s t : State}
    (h : scaleCommand k unset c s = .next t) (b : ByteBuffer) (n : FrameLen) :
    t.tx = s.tx ∧ t.txLen = s.txLen ∧
      scaleCommand k unset c (s.setTransmit b n) = .next (t.setTransmit b n) := by
  obtain ⟨hc, rfl⟩ | ⟨hc, hcount, rfl⟩ | ⟨hc, hcount, rfl, rfl⟩ | ⟨hc, hcount, rfl, rfl⟩ :=
    scaleCommand_cases h
  · exact ⟨rfl, rfl, if_pos hc⟩
  · exact ⟨rfl, rfl, scaleCommand_of_lt (s := s.setTransmit b n) hc hcount⟩
  · exact ⟨rfl, rfl, scaleCommand_of_unset (s := s.setTransmit b n) hc hcount⟩
  · exact ⟨rfl, rfl, scaleCommand_of_set (s := s.setTransmit b n) hc hcount⟩

theorem transmitUnread_of_scaleCommand {i : Instr} {k : Half → F64} {unset : Bool} {c : Byte} {s t : State}
    (hi : ∀ b n, exec i (s.setTransmit b n) = scaleCommand k unset c (s.setTransmit b n))
    (h : scaleCommand k unset c s = .next t) : TransmitUnread i s t := by
  obtain ⟨htx, hlen, -⟩ := scaleCommand_setTransmit h s.tx s.txLen
  refine transmitUnread_of_kept htx hlen fun b n => ?_
  obtain ⟨-, -, hx⟩ := scaleCommand_setTransmit h b n
  exact (hi b n).trans hx

/-- No command reads TXBUF or TX_LEN. -/
theorem transmitUnread {i : Instr} {s t : State} (h : exec i s = .next t) : TransmitUnread i s t := by
  cases i with
  | nop | crcInit | crcByte =>
    cases h
    exact transmitUnread_of_kept rfl rfl fun _ _ => rfl
  | crcRxbuf =>
    obtain ⟨hlen, rfl⟩ | ⟨hlen, rfl⟩ := execCrcRxbuf_cases h
    · exact transmitUnread_of_kept rfl rfl fun b n =>
        exec_crcRxbuf_of_gt (s := s.setTransmit b n) hlen
    · exact transmitUnread_of_kept rfl rfl fun b n =>
        exec_crcRxbuf_of_frameLen (s := s.setTransmit b n) rfl hlen
  | buildReq =>
    obtain ⟨bytes, c, hu⟩ := exec_buildReq_uniform s.req
    cases (hu s rfl).symm.trans h
    exact transmitUnread_of_stored rfl rfl fun b n => hu (s.setTransmit b n) rfl
  | loadVendor k =>
    by_cases hk : legalVendorIndex k
    · obtain ⟨bytes, hu⟩ := exec_loadVendor_uniform hk
      cases (hu s).symm.trans h
      exact transmitUnread_of_stored rfl rfl fun b n => hu (s.setTransmit b n)
    · cases (dif_neg hk : exec (.loadVendor k) s = raise .illegalCommand s).symm.trans h
      exact transmitUnread_of_kept rfl rfl fun _ _ => dif_neg hk
  | parse =>
    obtain ⟨code, ok, resp, crc, hu⟩ := exec_parse_uniform s
    cases (hu s rfl rfl).symm.trans h
    exact transmitUnread_of_kept rfl rfl fun b n => hu (s.setTransmit b n) rfl rfl
  | decodeWords m =>
    obtain ⟨hm, rfl⟩ | ⟨hm, hok, rfl⟩ | ⟨hm, hok, hlen, rfl⟩ | ⟨hm, hok, hlen, rfl⟩ :=
      execDecodeWords_cases h
    · exact transmitUnread_of_kept rfl rfl fun _ _ => if_pos hm
    · exact transmitUnread_of_kept rfl rfl fun b n =>
        exec_decodeWords_of_parseOk_false (s := s.setTransmit b n) hm hok
    · exact transmitUnread_of_kept rfl rfl fun b n =>
        exec_decodeWords_of_short (s := s.setTransmit b n) hm hok hlen
    · exact transmitUnread_of_kept rfl rfl fun b n =>
        exec_decodeWords_of_payload (s := s.setTransmit b n) hm hok hlen
  | scaleAccel | scaleGyro | scaleAngle => exact transmitUnread_of_scaleCommand (fun _ _ => rfl) h
  | softReset =>
    cases h
    exact fun b n => ⟨b, 0, rfl, fun _ => .inl ⟨rfl, rfl⟩, .inr rfl⟩

/-- Settles O56: every command ends by writing CODE, and TXBUF and TX_LEN are written at fixed places from the other
registers or kept. -/
theorem noCommandReadsCodeOrTransmitSide : Obligations.NoCommandReadsCodeOrTransmitSide :=
  ⟨exec_setCode, fun _ _ _ b n h => transmitUnread h b n⟩

end Sys2Proof.Machine
end

section
/-! PROOFS. A response loaded, parsed and decoded over the bus (30_encoding.md R78): runs put together of steps, the
host's writes of a frame, the words a payload carries, and the obligation. -/

namespace Sys2Proof.Machine

/-! ### Runs -/

/-- A run of `a + b` steps is a run of `b` steps after one of `a`. -/
theorem core_run_add {s t : State} (a b : Nat) (h : core.run a s = .next t) :
    core.run (a + b) s = core.run b t := by
  induction a generalizing s with
  | zero =>
    cases h
    rw [Nat.zero_add]
  | succ a ih =>
    obtain ⟨u, hu⟩ := step_next s
    rw [core_run_succ a hu] at h
    rw [Nat.add_right_comm, core_run_succ _ hu, ih h]

/-! ### Loading a frame -/

/-- A byte put into a bus word and taken out again is the byte. -/
theorem extractLsb'_setWidth (b : Byte) : (b.setWidth 32).extractLsb' 0 8 = b := by
  ext i hi
  simp [hi, show i < 32 by omega]

/-- The host's write of one byte of RXBUF. -/
theorem step_write_rxbuf {s : State} {i : Nat} {b : Byte} {rest : List BusAccess} (hi : i < 260)
    (hp : s.pending = .write (BitVec.ofNat 13 (0x1000 + 4 * i)) 4 (b.setWidth 32) :: rest) :
    step s = .next (((s.taken rest .done).setRx (s.rx.set i b)).setParseOk false) := by
  have ho : (BitVec.ofNat 13 (0x1000 + 4 * i)).toNat = 0x1000 + 4 * i := Nat.mod_eq_of_lt (by omega)
  rw [step_write_reg (r := .rxbuf ⟨i, hi⟩) hp (by omega) (by rw [ho]; exact regAt_rxbuf ⟨i, hi⟩) nofun,
    writeReg, extractLsb'_setWidth]
  rfl

/-- Within the bounds the two stores of one entry are the same. -/
theorem set_eq_setIfInBounds {α : Type} {n i : Nat} (v : Vector α n) (h : i < n) (x : α) :
    v.set i x h = v.setIfInBounds i x := by
  ext j hj
  rw [Vector.getElem_set, Vector.getElem_setIfInBounds]

/-- The host's writes of a run of bytes store that run (30_encoding.md R78). -/
theorem run_loadRxFrom (bytes : List Byte) {i : Nat} {s : State} {rest : List BusAccess}
    (hi : i + bytes.length ≤ 260) (hp : s.pending = loadRxFrom i bytes ++ rest) :
    ∃ t, core.run bytes.length s = .next t ∧ t.pending = rest ∧ t.rx = storeAt s.rx i bytes := by
  induction bytes generalizing i s with
  | nil => exact ⟨s, rfl, hp, rfl⟩
  | cons b bytes ih =>
    rw [List.length_cons] at hi
    have hi260 : i < 260 := by omega
    have hb := step_write_rxbuf hi260 hp
    obtain ⟨t, hrun, hpending, hrx⟩ := ih (i := i + 1) (by omega)
      (s := ((s.taken (loadRxFrom (i + 1) bytes ++ rest) .done).setRx (s.rx.set i b)).setParseOk false) rfl
    refine ⟨t, (core_run_succ _ hb).trans hrun, hpending, ?_⟩
    rw [hrx, storeAt, ← set_eq_setIfInBounds _ hi260]
    rfl

/-- After LOAD_RX the frame stands in RXBUF and its length in RX_LEN (30_encoding.md R78). -/
theorem run_loadRx {bytes : List Byte} {s : State} {rest : List BusAccess} (hlen : bytes.length ≤ 260)
    (hp : s.pending = loadRx bytes ++ rest) :
    ∃ t, core.run (bytes.length + 1) s = .next t ∧ t.pending = rest ∧
      t.rxLen = BitVec.ofNat 9 bytes.length ∧ t.rxFrame bytes.length = bytes := by
  rw [loadRx, List.append_assoc] at hp
  obtain ⟨t, hrun, hpending, hrx⟩ := run_loadRxFrom bytes (by omega) hp
  have hwrite := step_write_reg (r := .rxLen) hpending rfl rfl nofun
  refine ⟨_, (core_run_add _ 1 hrun).trans (core_run_succ 0 hwrite), rfl, ?_, ?_⟩
  · exact BitVec.eq_of_toNat_eq (by simp [writeReg])
  · change t.rx.toList.take bytes.length = bytes
    rw [hrx, storeAt_zero_toList _ _ hlen]
    exact List.take_left' rfl

/-! ### The words of a payload -/

theorem wordsPayload_length (ws : List Half) : (wordsPayload ws).length = 2 * ws.length := by
  induction ws with
  | nil => rfl
  | cons w ws ih =>
    simp [wordsPayload] at ih ⊢
    omega

/-- The two bytes of word `i` of a payload (20_memory.md R54). -/
theorem wordsPayload_getElem? (ws : List Half) (i : Nat) (hi : i < ws.length) :
    (wordsPayload ws)[2 * i]? = some (ws[i].extractLsb' 8 8) ∧
      (wordsPayload ws)[2 * i + 1]? = some (ws[i].extractLsb' 0 8) := by
  induction ws generalizing i with
  | nil => simp at hi
  | cons w ws ih =>
    cases i with
    | zero => exact ⟨rfl, rfl⟩
    | succ i => exact ih i (Nat.lt_of_succ_lt_succ hi)

/-- A word is its two bytes joined. -/
theorem joinBytes_extractLsb' (w : Half) : joinBytes (w.extractLsb' 8 8) (w.extractLsb' 0 8) = w := by
  refine BitVec.eq_of_toNat_eq ?_
  rw [joinBytes_toNat, BitVec.extractLsb'_toNat, BitVec.extractLsb'_toNat, Nat.shiftRight_eq_div_pow]
  omega

/-- The payload words of a response frame that carries words are those words (30_encoding.md R75). -/
theorem payloadWord_of_responseFrame {s : State} {addr func : Byte} {ws : List Half} {extra : List Byte}
    (hrx : s.rxFrame ((wordsPayload ws ++ extra).length + 5) =
      responseFrame addr func (wordsPayload ws ++ extra)) {i : Nat} (hi : i < ws.length) :
    payloadWord s i = ws[i] := by
  have hlen := wordsPayload_length ws
  obtain ⟨hhi, hlo⟩ := wordsPayload_getElem? ws i hi
  have hbyte {j : Nat} (hj : j < 2 * ws.length) : s.rxByte (3 + j) = (wordsPayload ws)[j]?.getD 0 := by
    rw [rxByte_of_responseFrame hrx (by simp; omega), Nat.add_comm]
    simp [responseFrame, List.getElem?_append_left, hlen, hj]
  rw [payloadWord, hbyte (by omega), show 4 + 2 * i = 3 + (2 * i + 1) by omega, hbyte (by omega), hhi, hlo]
  exact joinBytes_extractLsb' _

/-! ### The obligation -/

/-- Settles O37: the writes leave the frame in RXBUF, PARSE accepts it and keeps it there, and DECODE_WORDS finds
the words in its payload. -/
theorem loadParseDecodeRecoversTheWords : Obligations.LoadParseDecodeRecoversTheWords := by
  intro s addr func n ws extra rest hn hws hfit hp
  set payload := wordsPayload ws ++ extra with hpayload
  have hpaylen : payload.length = 2 * n.toNat + extra.length := by
    rw [hpayload, List.length_append, wordsPayload_length, hws]
  have hframe : (responseFrame addr func payload).length = payload.length + 5 := by simp [responseFrame]
  rw [List.append_assoc] at hp
  obtain ⟨t, hload, hpending, hlen, hrx⟩ := run_loadRx (by omega) hp
  rw [hframe] at hload hlen hrx
  have hpay : (BitVec.ofNat 8 payload.length).toNat = payload.length := Nat.mod_eq_of_lt (by omega)
  have hparse := (step_command (i := .parse) hpending rfl).trans
    (exec_parse_of_responseFrame (s := t.taken (command (.decodeWords n) :: rest) .done) (by omega) hlen hrx)
  set u := ((((t.taken (command (.decodeWords n) :: rest) .done).clearParse.setCrc
    (t.taken (command (.decodeWords n) :: rest) .done).frameCrc).setResp
    ⟨addr, func, BitVec.ofNat 8 payload.length, BitVec.ofNat 8 payload.length⟩).setParseOk true).setCode .ok
  have hdecode := (step_command (s := u) (i := .decodeWords n) rfl (decide_eq_true hn)).trans
    (exec_decodeWords_of_payload (s := u.taken rest .done) hn rfl (hpay ▸ (by omega)))
  have hsteps : 2 * n.toNat + extra.length + 8 = payload.length + 5 + 1 + 2 := by omega
  refine ⟨_, hsteps ▸ (core_run_add _ 2 hload).trans (core_run_two hparse hdecode), rfl, rfl,
    toNat_setWidth_of_legalWordCount hn, rfl, rfl, rfl, fun i hi => ?_⟩
  have hiws : i.val < ws.length := hws ▸ hi
  rw [List.getElem?_eq_getElem hiws, Option.some_inj]
  exact (payloadWord_of_responseFrame (s := u.taken rest .done) hrx hiws).symm.trans
    (storeAt_payloadWords_of_lt (u.taken rest .done) i hi).symm

end Sys2Proof.Machine
end

section
/-! PROOFS. Rounding to 53 binary digits, on rationals: what it means that a quotient rounds to a number of units
in its last place, that this is the nearest of all binary64 values, and when a quotient rounds without a tie. -/

namespace Sys2Proof.Machine

/-- `q` lies in `[2^e, 2^(e+1))` and is strictly nearest to `R` units of the last place, which there is worth
`2^(e-52)` (00_scope.md R8, 93_implementation_defined.md GK2). -/
structure RoundsTo (q : ℚ) (e : ℤ) (R : ℕ) : Prop where
  lower : (2 : ℚ) ^ e ≤ q
  upper : q < (2 : ℚ) ^ (e + 1)
  near : |(R : ℚ) - q / 2 ^ (e - 52)| < 1 / 2

/-- `v` is a multiple of a power of two by an integer of at most 53 binary digits; every finite binary64 value is
one. -/
def Representable (v : ℚ) : Prop := ∃ m j : ℤ, |m| < 2 ^ 53 ∧ v = m * (2 : ℚ) ^ j

theorem Representable.neg {v : ℚ} (h : Representable v) : Representable (-v) := by
  obtain ⟨m, j, hm, rfl⟩ := h
  exact ⟨-m, j, by rwa [abs_neg], by push_cast; ring⟩

theorem zpow_mul_self (e : ℤ) (n : ℕ) : (2 : ℚ) ^ n * 2 ^ (e - n) = 2 ^ e := by
  rw [← zpow_natCast, ← zpow_add₀ two_ne_zero]
  congr 1
  omega

namespace RoundsTo
variable {q : ℚ} {e : ℤ} {R : ℕ} (h : RoundsTo q e R)
include h

/-- The quotient in units of the last place is at least 2^52 and below 2^53. -/
theorem units_bounds : (2 : ℚ) ^ 52 ≤ q / 2 ^ (e - 52) ∧ q / 2 ^ (e - 52) < 2 ^ 53 := by
  have hu : (0 : ℚ) < 2 ^ (e - 52) := by positivity
  have hlo : (2 : ℚ) ^ 52 * 2 ^ (e - 52) = 2 ^ e := zpow_mul_self e 52
  have hhi : (2 : ℚ) ^ 53 * 2 ^ (e - 52) = 2 ^ (e + 1) := by
    rw [← zpow_mul_self (e + 1) 53]
    congr 2
    ring
  exact ⟨(le_div_iff₀ hu).2 (hlo ▸ h.lower), (div_lt_iff₀ hu).2 (hhi ▸ h.upper)⟩

theorem significand_bounds : 2 ^ 52 ≤ R ∧ R ≤ 2 ^ 53 := by
  obtain ⟨hlo, hhi⟩ := h.units_bounds
  obtain ⟨hl, hr⟩ := abs_lt.1 h.near
  have h1 : (2 ^ 52 : ℚ) < R + 1 := by linarith
  have h2 : (R : ℚ) < 2 ^ 53 + 1 := by linarith
  exact ⟨Nat.lt_succ_iff.1 (by exact_mod_cast h1), Nat.lt_succ_iff.1 (by exact_mod_cast h2)⟩

/-- Half of the quotient rounds to as many units of half the size. -/
theorem half : RoundsTo (q / 2) (e - 1) R := by
  have hpow (n : ℤ) : (2 : ℚ) ^ (n - 1) = 2 ^ n / 2 := by
    rw [zpow_sub_one₀ two_ne_zero, div_eq_mul_inv]
  have hupper := h.upper
  refine ⟨?_, ?_, ?_⟩
  · rw [hpow]; linarith [h.lower]
  · rw [sub_add_cancel]; rw [zpow_add_one₀ two_ne_zero] at hupper; linarith
  · rw [sub_right_comm, hpow, div_div_div_cancel_right₀ two_ne_zero]; exact h.near

end RoundsTo

/-- A representable value of at least `2^e` is a whole number of units of `2^(e-52)`. -/
theorem Representable.eq_units {v : ℚ} {e : ℤ} (hv : Representable v) (he : (2 : ℚ) ^ e ≤ |v|) :
    ∃ k : ℤ, v = k * (2 : ℚ) ^ (e - 52) := by
  obtain ⟨m, j, hm, rfl⟩ := hv
  have hj : e < 53 + j := by
    have hm' : |(m : ℚ)| < 2 ^ 53 := by exact_mod_cast hm
    have hpow : (0 : ℚ) < 2 ^ j := by positivity
    have hlt : (2 : ℚ) ^ e < 2 ^ (53 + j) := calc
      (2 : ℚ) ^ e ≤ |(m : ℚ)| * 2 ^ j := by rwa [abs_mul, abs_of_pos hpow] at he
      _ < 2 ^ 53 * 2 ^ j := by gcongr
      _ = 2 ^ (53 + j) := by rw [zpow_add₀ two_ne_zero]; rfl
    exact (zpow_lt_zpow_iff_right₀ one_lt_two).1 hlt
  obtain ⟨d, hd⟩ : ∃ d : ℕ, j = e - 52 + d := ⟨(j - (e - 52)).toNat, by omega⟩
  refine ⟨m * 2 ^ d, ?_⟩
  rw [hd, zpow_add₀ two_ne_zero, zpow_natCast]
  push_cast
  ring

/-- Of all representable values the rounded one is strictly nearest: in units of the last place it is the nearest
integer, and a value that is no multiple of the unit lies below `2^e`, which is one. -/
theorem RoundsTo.nearest {q : ℚ} {e : ℤ} {R : ℕ} (h : RoundsTo q e R) {v : ℚ} (hv : Representable v)
    (hne : v ≠ R * (2 : ℚ) ^ (e - 52)) : |R * (2 : ℚ) ^ (e - 52) - q| < |v - q| := by
  have hu : (0 : ℚ) < 2 ^ (e - 52) := by positivity
  have hq : q / 2 ^ (e - 52) * 2 ^ (e - 52) = q := div_mul_cancel₀ q hu.ne'
  have multiple (k : ℤ) (hk : k ≠ R) : |R * (2 : ℚ) ^ (e - 52) - q| < |k * (2 : ℚ) ^ (e - 52) - q| := by
    have hgap : (1 : ℚ) ≤ |(k : ℚ) - R| := by
      have : (1 : ℤ) ≤ |k - R| := Int.one_le_abs (sub_ne_zero.2 hk)
      exact_mod_cast this
    have htri : |(k : ℚ) - R| ≤ |(k : ℚ) - q / 2 ^ (e - 52)| + |(R : ℚ) - q / 2 ^ (e - 52)| := by
      rw [abs_sub_comm (R : ℚ)]
      exact abs_sub_le _ _ _
    have hunits : |(R : ℚ) - q / 2 ^ (e - 52)| < |(k : ℚ) - q / 2 ^ (e - 52)| := by linarith [h.near]
    have hscale (x : ℚ) : |x * 2 ^ (e - 52) - q| = |x - q / 2 ^ (e - 52)| * 2 ^ (e - 52) := by
      rw [← abs_of_pos hu, ← abs_mul, abs_of_pos hu, sub_mul, hq]
    rw [hscale, hscale]
    exact mul_lt_mul_of_pos_right hunits hu
  by_cases hlarge : (2 : ℚ) ^ e ≤ |v|
  · obtain ⟨k, rfl⟩ := hv.eq_units hlarge
    exact multiple k fun hk => hne (by rw [hk]; rfl)
  · have hvlow : v < 2 ^ e := (le_abs_self v).trans_lt (not_le.1 hlarge)
    have hstep : |(2 : ℚ) ^ e - q| < |v - q| := by
      rw [abs_of_nonpos (sub_nonpos.2 h.lower), abs_of_neg (by linarith [h.lower])]
      linarith
    have hpow : ((2 ^ 52 : ℤ) : ℚ) * 2 ^ (e - 52) = 2 ^ e := by exact_mod_cast zpow_mul_self e 52
    by_cases hR : (2 ^ 52 : ℤ) = R
    · have hval : (R : ℚ) * 2 ^ (e - 52) = 2 ^ e := by
        rw [← hpow, hR]
        rfl
      rwa [hval]
    · exact (hpow ▸ multiple (2 ^ 52) hR).trans hstep

/-- A representable quotient is rounded to itself. -/
theorem RoundsTo.exact {q : ℚ} {e : ℤ} {R : ℕ} (h : RoundsTo q e R) (hq : Representable q) :
    R * (2 : ℚ) ^ (e - 52) = q := by
  by_contra hne
  have hlt := h.nearest hq (Ne.symm hne)
  rw [sub_self, abs_zero] at hlt
  exact (abs_nonneg _).not_gt hlt

/-- A quotient with a small numerator, times a power of two, is no large odd number: an odd number that divides the
numerator times a power of two divides the numerator. -/
theorem div_mul_zpow_ne_odd {a b t : ℕ} (ha : 0 < a) (hb : 0 < b) (hat : a < t) (hodd : Odd t) (k : ℤ) :
    (a : ℚ) / b * 2 ^ k ≠ t := by
  intro h
  have hb0 : (b : ℚ) ≠ 0 := by exact_mod_cast hb.ne'
  have hcop (n : ℕ) : t.Coprime (2 ^ n) := Nat.Coprime.pow_right n (Nat.coprime_two_right.2 hodd)
  have hdvd : t ∣ a := by
    obtain ⟨n, rfl | rfl⟩ := k.eq_nat_or_neg
    · have heq : a * 2 ^ n = t * b := by
        have : (a : ℚ) * 2 ^ n = t * b := by
          rw [← h, zpow_natCast]
          field_simp
        exact_mod_cast this
      exact (hcop n).dvd_of_dvd_mul_right ⟨b, heq⟩
    · have heq : a = t * (b * 2 ^ n) := by
        have : (a : ℚ) = t * (b * 2 ^ n) := by
          rw [← h, zpow_neg, zpow_natCast]
          field_simp
        exact_mod_cast this
      exact ⟨_, heq⟩
  exact (Nat.le_of_dvd ha hdvd).not_gt hat

/-- A quotient with a numerator of at most 53 binary digits rounds without a tie: a tie would make twice the
number of units odd. -/
theorem exists_roundsTo {a b : ℕ} (ha : 0 < a) (hsmall : a < 2 ^ 53) (hb : 0 < b) :
    ∃ e R, RoundsTo ((a : ℚ) / b) e R := by
  have hq : (0 : ℚ) < a / b := by positivity
  obtain ⟨e, hlo, hhi⟩ := exists_mem_Ico_zpow hq one_lt_two
  set x : ℚ := (a : ℚ) / b / 2 ^ (e - 52) with hx
  have hx52 : (2 : ℚ) ^ 52 ≤ x := (le_div_iff₀ (by positivity)).2 ((zpow_mul_self e 52).trans_le hlo)
  have hle := abs_sub_round x
  obtain ⟨R, hR⟩ : ∃ R : ℕ, (R : ℤ) = round x := by
    refine ⟨(round x).toNat, Int.toNat_of_nonneg ?_⟩
    have : (0 : ℚ) ≤ round x := by linarith [(abs_le.1 hle).2]
    exact_mod_cast this
  have hRx : (round x : ℚ) = R := by rw [← hR]; rfl
  rw [hRx, abs_sub_comm] at hle
  have htwice (t : ℕ) (hodd : Odd t) (ht : 2 * x = t) : False := by
    have hat : (2 : ℚ) ^ 53 ≤ t := by linarith
    refine div_mul_zpow_ne_odd ha hb (hsmall.trans_le (by exact_mod_cast hat)) hodd (1 - (e - 52)) ?_
    rw [← ht, hx, zpow_sub₀ two_ne_zero, zpow_one]
    ring
  refine ⟨e, R, hlo, hhi, hle.lt_of_ne fun htie => ?_⟩
  obtain h | h := (abs_eq one_half_pos.le).1 htie
  · obtain ⟨r, rfl⟩ : ∃ r, R = r + 1 := Nat.exists_eq_succ_of_ne_zero fun h0 => by
      rw [h0, Nat.cast_zero] at h
      linarith
    rw [Nat.cast_add_one] at h
    exact htwice (2 * r + 1) ⟨r, rfl⟩ (by push_cast; linarith)
  · exact htwice (2 * R + 1) ⟨R, rfl⟩ (by push_cast; linarith)

end Sys2Proof.Machine
end

section
/-! PROOFS. The binary64 encoding of a rounded quotient (00_scope.md R8): the model's exponent and rounding are those
of `RoundsTo`, what an encoding is worth, and how `f64` depends on its quotient. -/

namespace Sys2Proof.Machine

/-! ### The integer computation -/

/-- The fraction's value is the quotient times the power of two. -/
theorem scalePow2_div (a b : ℕ) (k : ℤ) :
    ((scalePow2 a b k).1 : ℚ) / (scalePow2 a b k).2 = (a : ℚ) / b * 2 ^ k := by
  obtain ⟨n, rfl | rfl⟩ := k.eq_nat_or_neg
  · simp [scalePow2]
    ring
  · simp [scalePow2]
    ring

theorem scalePow2_snd_pos (a : ℕ) {b : ℕ} (hb : 0 < b) (k : ℤ) : 0 < (scalePow2 a b k).2 :=
  Nat.mul_pos hb (Nat.two_pow_pos _)

/-- The denominator does not exceed the numerator exactly if the scaled quotient is at least 1. -/
theorem scalePow2_snd_le_fst (a : ℕ) {b : ℕ} (hb : 0 < b) (e : ℤ) :
    (scalePow2 a b (-e)).2 ≤ (scalePow2 a b (-e)).1 ↔ (2 : ℚ) ^ e ≤ (a : ℚ) / b := by
  have hpos : (0 : ℚ) < (scalePow2 a b (-e)).2 := by exact_mod_cast scalePow2_snd_pos a hb (-e)
  rw [← Nat.cast_le (α := ℚ), ← one_le_div hpos, scalePow2_div, zpow_neg, ← div_eq_mul_inv,
    one_le_div (by positivity)]

theorem two_pow_log2_le {n : ℕ} (hn : 0 < n) : (2 : ℚ) ^ (n.log2 : ℤ) ≤ n := by
  rw [zpow_natCast]
  exact_mod_cast Nat.log2_self_le hn.ne'

theorem lt_two_pow_log2_succ (n : ℕ) : (n : ℚ) < 2 ^ ((n.log2 : ℤ) + 1) := by
  rw [← Nat.cast_add_one, zpow_natCast]
  exact_mod_cast Nat.lt_log2_self

/-- `quotientExponent` is the exponent of the quotient: the two lengths give it up to one, and the comparison
decides. -/
theorem quotientExponent_eq {a b : ℕ} {e : ℤ} (ha : 0 < a) (hb : 0 < b) (hlo : (2 : ℚ) ^ e ≤ (a : ℚ) / b)
    (hhi : (a : ℚ) / b < 2 ^ (e + 1)) : quotientExponent a b = e := by
  set d : ℤ := (a.log2 : ℤ) - b.log2 with hd
  have hb0 : (0 : ℚ) < b := by exact_mod_cast hb
  have hle : e < d + 1 := by
    refine (zpow_lt_zpow_iff_right₀ (one_lt_two (α := ℚ))).1 (hlo.trans_lt ?_)
    calc (a : ℚ) / b ≤ a / 2 ^ (b.log2 : ℤ) := by gcongr; exact two_pow_log2_le hb
      _ < 2 ^ ((a.log2 : ℤ) + 1) / 2 ^ (b.log2 : ℤ) := by gcongr; exact lt_two_pow_log2_succ a
      _ = 2 ^ (d + 1) := by rw [← zpow_sub₀ two_ne_zero, hd, sub_add_eq_add_sub]
  have hge : d - 1 < e + 1 := by
    refine (zpow_lt_zpow_iff_right₀ (one_lt_two (α := ℚ))).1 (lt_of_le_of_lt ?_ hhi)
    calc (2 : ℚ) ^ (d - 1) = 2 ^ (a.log2 : ℤ) / 2 ^ ((b.log2 : ℤ) + 1) := by
          rw [← zpow_sub₀ two_ne_zero, hd, sub_sub]
      _ ≤ a / b := by gcongr; exacts [two_pow_log2_le ha, (lt_two_pow_log2_succ b).le]
  have hcond := scalePow2_snd_le_fst a hb d
  have hval : quotientExponent a b = if (2 : ℚ) ^ d ≤ (a : ℚ) / b then d else d - 1 := by
    simp only [quotientExponent, ← hd, hcond]
  rw [hval]
  split
  · have : d < e + 1 := (zpow_lt_zpow_iff_right₀ (one_lt_two (α := ℚ))).1 (lt_of_le_of_lt ‹_› hhi)
    omega
  · have : e < d := (zpow_lt_zpow_iff_right₀ (one_lt_two (α := ℚ))).1 (hlo.trans_lt (not_le.1 ‹_›))
    omega

/-- `roundNearestEven` is the integer nearest the quotient, wherever one is nearest. -/
theorem roundNearestEven_eq {a b R : ℕ} (hb : 0 < b) (h : |(R : ℚ) - (a : ℚ) / b| < 1 / 2) :
    roundNearestEven a b = R := by
  have hb0 : (0 : ℚ) < b := by exact_mod_cast hb
  obtain ⟨hl, hr⟩ := abs_lt.1 h
  have hlow : 2 * a < 2 * (b * R) + b := by
    have := (div_lt_iff₀ hb0).1 (show (a : ℚ) / b < R + 1 / 2 by linarith)
    have : (2 * a : ℚ) < 2 * (b * R) + b := by linarith
    exact_mod_cast this
  have hhigh : 2 * (b * R) < 2 * a + b := by
    have := (lt_div_iff₀ hb0).1 (show (R : ℚ) - 1 / 2 < a / b by linarith)
    have : (2 * (b * R) : ℚ) < 2 * a + b := by linarith
    exact_mod_cast this
  have hdiv := Nat.div_add_mod a b
  have hmod := Nat.mod_lt a hb
  set c := a / b
  have hcases : R < c ∨ R = c ∨ R = c + 1 ∨ c + 2 ≤ R := by omega
  obtain hR | rfl | rfl | hR := hcases
  · have := Nat.mul_le_mul_left b (show R + 1 ≤ c from hR)
    rw [Nat.mul_add] at this
    omega
  · exact if_pos (by omega)
  · rw [Nat.mul_add] at hlow hhigh
    exact (if_neg (by omega)).trans (if_pos (by omega))
  · have := Nat.mul_le_mul_left b hR
    rw [Nat.mul_add] at this
    omega

theorem f64Magnitude_eq {a b R : ℕ} {e : ℤ} (ha : 0 < a) (hb : 0 < b) (h : RoundsTo ((a : ℚ) / b) e R)
    (hmin : -1022 ≤ e) (hmax : e ≤ 1022) :
    f64Magnitude a b = (e + 1022).toNat * 2 ^ 52 + R := by
  obtain ⟨-, hR⟩ := h.significand_bounds
  have hround : roundNearestEven (scalePow2 a b (52 - e)).1 (scalePow2 a b (52 - e)).2 = R := by
    refine roundNearestEven_eq (scalePow2_snd_pos a hb _) ?_
    rw [scalePow2_div, ← neg_sub e 52, zpow_neg, ← div_eq_mul_inv]
    exact h.near
  rw [f64Magnitude, if_neg ha.ne', quotientExponent_eq ha hb h.lower h.upper, max_eq_left hmin]
  simp only [hround]
  refine min_eq_left ?_
  omega

/-- The encoding of `R` units of the last place of `2^e`, with a sign. -/
def f64OfUnits (neg : Bool) (e : ℤ) (R : ℕ) : F64 :=
  BitVec.ofNat 64 ((if neg then 2 ^ 63 else 0) + ((e + 1022).toNat * 2 ^ 52 + R))

/-- `f64` of a quotient is the encoding of what it rounds to. -/
theorem f64_eq_ofUnits {num : ℤ} {den R : ℕ} {e : ℤ} (hnum : num ≠ 0) (hden : 0 < den)
    (h : RoundsTo (|(num : ℚ)| / den) e R) (hmin : -1022 ≤ e) (hmax : e ≤ 1022) :
    f64 num den = f64OfUnits (decide (num < 0)) e R := by
  have habs : |(num : ℚ)| = (num.natAbs : ℚ) := by
    rw [Nat.cast_natAbs]
    simp
  rw [f64, f64OfUnits, f64Magnitude_eq (Int.natAbs_pos.2 hnum) hden (habs ▸ h) hmin hmax]
  simp only [decide_eq_true_eq]

theorem f64_zero (den : ℕ) : f64 0 den = 0 := rfl

/-! ### What an encoding is worth -/

/-- The value of an encoding: its significand, with the sign, in units of the last place. -/
theorem f64Value_eq (x : F64) : f64Value x =
    (if x.msb then -1 else 1) * f64Significand x * (2 : ℚ) ^ (((max (f64Exponent x) 1 : ℕ) : ℤ) - 1075) := by
  have hf := scalePow2_div (f64Significand x) 1 (((max (f64Exponent x) 1 : ℕ) : ℤ) - 1075)
  rw [Nat.cast_one, div_one] at hf
  rw [mul_assoc, ← hf, f64Value, f64ToFraction]
  cases x.msb
  · simp
  · simp [neg_div]

theorem representable_f64Value (x : F64) : Representable (f64Value x) := by
  have hfrac : f64Fraction x < 2 ^ 52 := BitVec.isLt _
  have hsig : f64Significand x < 2 ^ 53 := by
    unfold f64Significand
    split <;> omega
  refine ⟨(if x.msb then -1 else 1) * f64Significand x, _, ?_, (f64Value_eq x).trans (by push_cast; rfl)⟩
  split <;> simpa [abs_mul] using by exact_mod_cast hsig

section
variable {neg : Bool} {e : ℤ} {R : ℕ} (hlo : 2 ^ 52 ≤ R) (hhi : R ≤ 2 ^ 53) (hmin : -1022 ≤ e) (hmax : e ≤ 1022)
include hlo hhi hmin hmax

theorem f64OfUnits_toNat : (f64OfUnits neg e R).toNat =
    (if neg then 2 ^ 63 else 0) + ((e + 1022).toNat * 2 ^ 52 + R) := by
  rw [f64OfUnits, BitVec.toNat_ofNat]
  refine Nat.mod_eq_of_lt ?_
  split <;> omega

theorem f64OfUnits_msb : (f64OfUnits neg e R).msb = neg := by
  rw [BitVec.msb_eq_decide, f64OfUnits_toNat hlo hhi hmin hmax]
  cases neg
  · simp; omega
  · simp

theorem f64OfUnits_exponent : f64Exponent (f64OfUnits neg e R) =
    (e + 1022).toNat + R / 2 ^ 52 := by
  rw [f64Exponent, BitVec.extractLsb'_toNat, f64OfUnits_toNat hlo hhi hmin hmax, Nat.shiftRight_eq_div_pow]
  cases neg <;> simp <;> omega

theorem f64OfUnits_fraction : f64Fraction (f64OfUnits neg e R) = R % 2 ^ 52 := by
  rw [f64Fraction, BitVec.extractLsb'_toNat, f64OfUnits_toNat hlo hhi hmin hmax]
  cases neg
  · simp
  · simp
    omega

theorem f64Normal_ofUnits : f64Normal (f64OfUnits neg e R) := by
  rw [f64Normal, f64OfUnits_exponent hlo hhi hmin hmax]
  omega

/-- The value: where the rounding reached 2^53 the exponent field is one more and the fraction is 0. -/
theorem f64Value_ofUnits : f64Value (f64OfUnits neg e R) =
    (if neg then -1 else 1) * R * (2 : ℚ) ^ (e - 52) := by
  rw [f64Value_eq, f64OfUnits_msb hlo hhi hmin hmax, f64Significand, f64OfUnits_exponent hlo hhi hmin hmax,
    f64OfUnits_fraction hlo hhi hmin hmax]
  have hne : (e + 1022).toNat + R / 2 ^ 52 ≠ 0 := by omega
  rw [if_neg hne]
  obtain hR | rfl := hhi.lt_or_eq
  · have hsig : 2 ^ 52 + R % 2 ^ 52 = R := by omega
    have hexp : ((max ((e + 1022).toNat + R / 2 ^ 52) 1 : ℕ) : ℤ) - 1075 = e - 52 := by omega
    rw [hsig, hexp]
  · have hexp : ((max ((e + 1022).toNat + 2 ^ 53 / 2 ^ 52) 1 : ℕ) : ℤ) - 1075 = e - 52 + 1 := by omega
    rw [hexp, zpow_add_one₀ two_ne_zero]
    push_cast
    ring

end

end Sys2Proof.Machine
end

section
/-! PROOFS. `f64` on the quotients that the scale functions form (42_unpack.md R98, R99): the result is the nearest
binary64 value, depends on the quotient only, and is exact where the quotient is representable; multiplying and
halving such results. -/

namespace Sys2Proof.Machine

/-- The bounds of the quotients that the scale functions form, far inside the range of normal binary64 values. -/
structure SmallQuotient (num : ℤ) (den : ℕ) : Prop where
  num_lt : num.natAbs < 2 ^ 27
  den_pos : 0 < den
  den_le : den ≤ 2 ^ 17

/-! ### Signs -/

theorem cast_natAbs_eq_abs (num : ℤ) : (num.natAbs : ℚ) = |(num : ℚ)| := by
  rw [Nat.cast_natAbs, Int.cast_abs]

/-- A number is its magnitude with its sign. -/
theorem sign_mul_abs (x : ℚ) : (if x < 0 then -1 else 1) * |x| = x := by
  split
  · rw [abs_of_neg ‹_›]; ring
  · rw [abs_of_nonneg (not_lt.1 ‹_›), one_mul]

theorem div_cast_neg_iff {num : ℤ} {den : ℕ} (hden : 0 < den) : (num : ℚ) / den < 0 ↔ num < 0 := by
  have hd : (0 : ℚ) < den := by exact_mod_cast hden
  rw [div_lt_iff₀ hd, zero_mul, Int.cast_lt_zero]

theorem f64Value_zero : f64Value 0 = 0 := by
  rw [f64Value_eq]
  simp [f64Significand, f64Exponent, f64Fraction]

/-! ### Rounding a small quotient -/

namespace SmallQuotient
variable {num : ℤ} {den : ℕ} (h : SmallQuotient num den)
include h

/-- A quotient other than 0 rounds without a tie, to a normal value. -/
theorem exists_roundsTo (hnum : num ≠ 0) :
    ∃ e R, RoundsTo (|(num : ℚ)| / den) e R ∧ -1000 ≤ e ∧ e ≤ 1000 := by
  obtain ⟨hlt, hden, hle⟩ := h
  have hpos : 0 < num.natAbs := Int.natAbs_pos.2 hnum
  obtain ⟨e, R, hr⟩ := Machine.exists_roundsTo hpos (hlt.trans (by decide)) hden
  have hd1 : (1 : ℚ) ≤ den := by exact_mod_cast hden
  have hlow : (2 : ℚ) ^ (-17 : ℤ) ≤ (num.natAbs : ℚ) / den := by
    rw [le_div_iff₀ (by positivity)]
    have h1 : (1 : ℚ) ≤ num.natAbs := by exact_mod_cast hpos
    have h2 : (den : ℚ) ≤ 131072 := by exact_mod_cast hle
    have hpow : (2 : ℚ) ^ (-17 : ℤ) = 1 / 131072 := by norm_num
    rw [hpow]
    linarith
  have hhigh : (num.natAbs : ℚ) / den < (2 : ℚ) ^ (27 : ℤ) := by
    refine (div_le_self (by positivity) hd1).trans_lt ?_
    exact_mod_cast hlt
  have hmin : -17 < e + 1 := (zpow_lt_zpow_iff_right₀ (one_lt_two (α := ℚ))).1 (hlow.trans_lt hr.upper)
  have hmax : e < 27 := (zpow_lt_zpow_iff_right₀ (one_lt_two (α := ℚ))).1 (hr.lower.trans_lt hhigh)
  exact ⟨e, R, cast_natAbs_eq_abs num ▸ hr, by omega, by omega⟩

/-- The result encodes what the quotient rounds to, and is worth it. -/
theorem exists_units (hnum : num ≠ 0) : ∃ e R, RoundsTo (|(num : ℚ)| / den) e R ∧ -1000 ≤ e ∧ e ≤ 1000 ∧
    f64 num den = f64OfUnits (decide (num < 0)) e R ∧
    f64Value (f64 num den) = (if (num : ℚ) < 0 then -1 else 1) * (R * (2 : ℚ) ^ (e - 52)) := by
  obtain ⟨e, R, hr, hmin, hmax⟩ := h.exists_roundsTo hnum
  have henc := f64_eq_ofUnits hnum h.den_pos hr (by omega) (by omega)
  obtain ⟨hlo, hhi⟩ := hr.significand_bounds
  refine ⟨e, R, hr, hmin, hmax, henc, ?_⟩
  rw [henc, f64Value_ofUnits hlo hhi (by omega) (by omega), mul_assoc]
  simp only [decide_eq_true_eq, Int.cast_lt_zero]

/-- Of all binary64 values the result is strictly nearest to the quotient (42_unpack.md R98). -/
theorem nearest {v : ℚ} (hv : Representable v) (hne : v ≠ f64Value (f64 num den)) :
    |f64Value (f64 num den) - num / den| < |v - num / den| := by
  by_cases hnum : num = 0
  · subst hnum
    rw [f64_zero, f64Value_zero] at hne ⊢
    simpa using hne
  · obtain ⟨e, R, hr, -, -, -, hval⟩ := h.exists_units hnum
    have hsign : (num : ℚ) / den = (if (num : ℚ) < 0 then -1 else 1) * (|(num : ℚ)| / den) := by
      rw [← mul_div_assoc, sign_mul_abs]
    rw [hval] at hne ⊢
    rw [hsign]
    split at hne
    · have hn := hr.nearest hv.neg fun hx => hne (by rw [← hx]; ring)
      have hresult : -1 * (R * (2 : ℚ) ^ (e - 52)) - -1 * (|(num : ℚ)| / den) =
          -(R * 2 ^ (e - 52) - |(num : ℚ)| / den) := by ring
      have hother : v - -1 * (|(num : ℚ)| / den) = -(-v - |(num : ℚ)| / den) := by ring
      rwa [if_pos ‹_›, hresult, hother, abs_neg, abs_neg]
    · rw [if_neg ‹_›, one_mul, one_mul]
      exact hr.nearest hv (by rwa [one_mul] at hne)

/-- A representable quotient is the value of its result (42_unpack.md R99). -/
theorem exact (hq : Representable ((num : ℚ) / den)) : f64Value (f64 num den) = num / den := by
  by_contra hne
  have hlt := h.nearest hq (Ne.symm hne)
  rw [sub_self, abs_zero] at hlt
  exact (abs_nonneg _).not_gt hlt

/-- The result is monotone in the numerator: of two values in the wrong order the quotients would both have to lie
beyond the middle. -/
theorem mono {num' : ℤ} (h' : SmallQuotient num' den) (hle : num ≤ num') :
    f64Value (f64 num den) ≤ f64Value (f64 num' den) := by
  by_contra hgt
  have hgt := not_le.1 hgt
  have hden : (0 : ℚ) < den := by exact_mod_cast h.den_pos
  have hq : (num : ℚ) / den ≤ num' / den := by gcongr
  have h1 := h.nearest (representable_f64Value (f64 num' den)) hgt.ne
  have h2 := h'.nearest (representable_f64Value (f64 num den)) hgt.ne'
  have hbelow : f64Value (f64 num den) + f64Value (f64 num' den) < 2 * (num / den) := by
    nlinarith [sq_lt_sq.2 h1]
  have habove : 2 * ((num' : ℚ) / den) < f64Value (f64 num den) + f64Value (f64 num' den) := by
    nlinarith [sq_lt_sq.2 h2]
  linarith

/-- The results are 0 for 0 and else a normal value with the sign of the numerator (42_unpack.md R105). -/
theorem normal (hnum : num ≠ 0) : f64Normal (f64 num den) ∧ ((f64 num den).msb = true ↔ num < 0) := by
  obtain ⟨e, R, hr, hmin, hmax, henc, -⟩ := h.exists_units hnum
  obtain ⟨hlo, hhi⟩ := hr.significand_bounds
  rw [henc, f64OfUnits_msb hlo hhi (by omega) (by omega), decide_eq_true_iff]
  exact ⟨f64Normal_ofUnits hlo hhi (by omega) (by omega), Iff.rfl⟩

/-- `f64` depends on the quotient only. -/
theorem congr {num' : ℤ} {den' : ℕ} (hden' : 0 < den') (hq : (num' : ℚ) / den' = num / den) :
    f64 num' den' = f64 num den := by
  have hd : (0 : ℚ) < den := by exact_mod_cast h.den_pos
  have hd' : (0 : ℚ) < den' := by exact_mod_cast hden'
  by_cases hnum : num = 0
  · subst hnum
    have : num' = 0 := by simpa [hd'.ne'] using hq
    rw [this, f64_zero, f64_zero]
  · obtain ⟨e, R, hr, hmin, hmax, henc, -⟩ := h.exists_units hnum
    have hnum' : num' ≠ 0 := by
      rintro rfl
      rw [Int.cast_zero, zero_div] at hq
      exact hnum (by simpa [hd.ne'] using hq.symm)
    have habs : |(num' : ℚ)| / den' = |(num : ℚ)| / den := by
      rw [← abs_of_pos hd, ← abs_of_pos hd', ← abs_div, ← abs_div, hq]
    have hneg : num' < 0 ↔ num < 0 := by
      rw [← div_cast_neg_iff hden', hq, div_cast_neg_iff h.den_pos]
    rw [henc, f64_eq_ofUnits hnum' hden' (habs ▸ hr) (by omega) (by omega), decide_eq_decide.2 hneg]

end SmallQuotient

/-! ### Multiplying and halving results -/

theorem f64ToFraction_snd_pos (x : F64) : 0 < (f64ToFraction x).2 :=
  scalePow2_snd_pos (f64Significand x) Nat.one_pos _

/-- A product with a representable quotient is rounded once (42_unpack.md R98, R99). -/
theorem f64Mul_f64 {num : ℤ} {den c : ℕ} (h : SmallQuotient num den)
    (hq : Representable ((num : ℚ) / den)) (hc : SmallQuotient (num * c) den) :
    f64Mul (f64 num den) c = f64 (num * c) den := by
  refine hc.congr (f64ToFraction_snd_pos _) ?_
  push_cast
  rw [mul_div_right_comm, mul_div_right_comm, ← h.exact hq, f64Value]

/-- A whole number of units of 53 binary digits rounds to itself. -/
theorem roundsTo_self {R : ℕ} (hlo : 2 ^ 52 ≤ R) (hhi : R < 2 ^ 53) (e : ℤ) :
    RoundsTo (R * (2 : ℚ) ^ (e - 52)) e R := by
  have hlo' : (2 : ℚ) ^ 52 ≤ R := by exact_mod_cast hlo
  have hhi' : (R : ℚ) < 2 ^ 53 := by exact_mod_cast hhi
  refine ⟨?_, ?_, ?_⟩
  · rw [← zpow_mul_self e 52, Nat.cast_ofNat]
    gcongr
  · rw [← zpow_mul_self (e + 1) 53, show e + 1 - (53 : ℕ) = e - 52 by push_cast; ring]
    gcongr
  · rw [mul_div_cancel_right₀ _ (by positivity), sub_self, abs_zero]
    exact one_half_pos

/-- The encoding carries from the significand into the exponent. -/
theorem f64OfUnits_carry (neg : Bool) {e : ℤ} (hmin : -1022 ≤ e) :
    f64OfUnits neg (e + 1) (2 ^ 52) = f64OfUnits neg e (2 ^ 53) := by
  have hunits : (e + 1 + 1022).toNat * 2 ^ 52 + 2 ^ 52 = (e + 1022).toNat * 2 ^ 52 + 2 ^ 53 := by omega
  rw [f64OfUnits, f64OfUnits, hunits]

/-- `f64` of a quotient that is exactly a signed number of units. -/
theorem f64_eq_ofUnits_of_value {num : ℤ} {den R : ℕ} {neg : Bool} {e : ℤ} (hden : 0 < den)
    (hlo : 2 ^ 52 ≤ R) (hhi : R ≤ 2 ^ 53) (hmin : -1022 ≤ e) (hmax : e < 1022)
    (hval : (num : ℚ) / den = (if neg then -1 else 1) * R * (2 : ℚ) ^ (e - 52)) :
    f64 num den = f64OfUnits neg e R := by
  have hd : (0 : ℚ) < den := by exact_mod_cast hden
  have hpos : (0 : ℚ) < R * 2 ^ (e - 52) := by
    have : (0 : ℚ) < R := by exact_mod_cast (Nat.two_pow_pos 52).trans_le hlo
    positivity
  have habs : |(num : ℚ)| / den = R * 2 ^ (e - 52) := by
    rw [← abs_of_pos hd, ← abs_div, hval, mul_assoc, abs_mul, abs_of_pos hpos]
    cases neg <;> simp
  have hsign : decide (num < 0) = neg := by
    have hiff : num < 0 ↔ neg = true := by
      rw [← div_cast_neg_iff hden, hval, mul_assoc]
      cases neg
      · simpa using hpos.le
      · simpa using hpos
    simp only [hiff, Bool.decide_eq_true]
  have hnum : num ≠ 0 := by
    rintro rfl
    rw [Int.cast_zero, abs_zero, zero_div] at habs
    exact hpos.ne habs
  obtain hR | rfl := hhi.lt_or_eq
  · rw [f64_eq_ofUnits hnum hden (habs ▸ roundsTo_self hlo hR e) hmin hmax.le, hsign]
  · have hcarry : ((2 ^ 53 : ℕ) : ℚ) * 2 ^ (e - 52) = ((2 ^ 52 : ℕ) : ℚ) * 2 ^ (e + 1 - 52) := by
      rw [show e + 1 - 52 = e - 52 + 1 by ring, zpow_add_one₀ two_ne_zero]
      push_cast
      ring
    have hr := roundsTo_self le_rfl (by norm_num) (e + 1)
    rw [← hcarry, ← habs] at hr
    rw [f64_eq_ofUnits hnum hden hr (by omega) (by omega), hsign, f64OfUnits_carry neg hmin]

/-- With twice the denominator a quotient rounds to as many units of half the size. -/
theorem SmallQuotient.exists_units_two_mul {num : ℤ} {den : ℕ} (h : SmallQuotient num den) (hnum : num ≠ 0) :
    ∃ e R, (2 ^ 52 ≤ R ∧ R ≤ 2 ^ 53) ∧ (-1000 ≤ e ∧ e ≤ 1000) ∧
      f64 num den = f64OfUnits (decide (num < 0)) e R ∧
      f64 num (2 * den) = f64OfUnits (decide (num < 0)) (e - 1) R := by
  obtain ⟨e, R, hr, hmin, hmax, henc, -⟩ := h.exists_units hnum
  have hr2 : RoundsTo (|(num : ℚ)| / (2 * den : ℕ)) (e - 1) R := by
    have := hr.half
    rwa [div_div, mul_comm, ← Nat.cast_ofNat, ← Nat.cast_mul] at this
  exact ⟨e, R, hr.significand_bounds, ⟨hmin, hmax⟩, henc,
    f64_eq_ofUnits hnum (Nat.mul_pos two_pos h.den_pos) hr2 (by omega) (by omega)⟩

/-- The result with twice the denominator is worth half (42_unpack.md R99). -/
theorem f64Value_f64_two_mul {num : ℤ} {den : ℕ} (h : SmallQuotient num den) :
    f64Value (f64 num (2 * den)) = f64Value (f64 num den) / 2 := by
  by_cases hnum : num = 0
  · subst hnum
    rw [f64_zero, f64_zero, f64Value_zero, zero_div]
  · obtain ⟨e, R, ⟨hlo, hhi⟩, ⟨hmin, hmax⟩, henc, henc2⟩ := h.exists_units_two_mul hnum
    rw [henc2, henc, f64Value_ofUnits hlo hhi (by omega) (by omega),
      f64Value_ofUnits hlo hhi (by omega) (by omega), sub_right_comm, zpow_sub_one₀ two_ne_zero]
    ring

/-- Halving a result is dividing by twice the denominator (42_unpack.md R98, log 16). -/
theorem f64Half_f64 {num : ℤ} {den : ℕ} (h : SmallQuotient num den) :
    f64Half (f64 num den) = f64 num (2 * den) := by
  by_cases hnum : num = 0
  · subst hnum
    have hnum0 : (f64ToFraction 0).1 = 0 := by decide
    rw [f64_zero, f64_zero, f64Half, hnum0, f64_zero]
  · obtain ⟨e, R, ⟨hlo, hhi⟩, ⟨hmin, hmax⟩, henc, henc2⟩ := h.exists_units_two_mul hnum
    have hval := f64Value_ofUnits (neg := decide (num < 0)) hlo hhi (show -1022 ≤ e by omega) (by omega)
    rw [f64Value] at hval
    rw [henc2, henc]
    refine f64_eq_ofUnits_of_value (Nat.mul_pos (f64ToFraction_snd_pos _) two_pos) hlo hhi (by omega)
      (by omega) ?_
    push_cast
    rw [← div_div, hval, sub_right_comm, zpow_sub_one₀ two_ne_zero]
    ring

end Sys2Proof.Machine
end

section
/-! PROOFS. The three scale functions (42_unpack.md R98 to R106): each is `f64` of one small quotient, and the five
obligations on their values. -/

namespace Sys2Proof.Machine

/-! ### The scales as rounded quotients -/

/-- A raw word is between -32768 and 32767 (00_scope.md R9). -/
theorem toInt_bounds (w : Half) : -32768 ≤ w.toInt ∧ w.toInt ≤ 32767 :=
  ⟨BitVec.le_toInt w, Int.lt_add_one_iff.1 BitVec.toInt_lt⟩

theorem toInt_ne_zero {w : Half} (hw : w ≠ 0) : w.toInt ≠ 0 :=
  fun h => hw (BitVec.eq_of_toInt_eq h)

/-- A raw word times a small factor, over a small denominator. -/
theorem smallQuotient_toInt_mul (w : Half) {c den : ℕ} (hc : c ≤ 2000) (hpos : 0 < den) (hle : den ≤ 2 ^ 17) :
    SmallQuotient (w.toInt * c) den := by
  obtain ⟨hlo, hhi⟩ := toInt_bounds w
  have hw : w.toInt.natAbs ≤ 32768 := by omega
  refine ⟨?_, hpos, hle⟩
  rw [Int.natAbs_mul, Int.natAbs_natCast]
  exact (Nat.mul_le_mul hw hc).trans_lt (by norm_num)

theorem smallQuotient_toInt (w : Half) {den : ℕ} (hpos : 0 < den) (hle : den ≤ 2 ^ 17) :
    SmallQuotient w.toInt den := by
  simpa using smallQuotient_toInt_mul w (c := 1) (by norm_num) hpos hle

/-- A raw word times a small factor, divided by a power of two, is representable (42_unpack.md R99). -/
theorem representable_toInt_mul_div (w : Half) {c : ℕ} (hc : c ≤ 2000) (k : ℕ) :
    Representable ((w.toInt * c : ℤ) / (2 ^ k : ℕ)) := by
  have h := (smallQuotient_toInt_mul w hc Nat.one_pos (by norm_num)).num_lt
  refine ⟨w.toInt * c, -k, ?_, ?_⟩
  · rw [Int.abs_eq_natAbs]
    exact_mod_cast h.trans (by norm_num)
  · rw [zpow_neg, zpow_natCast, div_eq_mul_inv]
    push_cast
    rfl

/-- A scale with factor `c` is one rounding of the raw word times `c` over 32768. -/
theorem f64Mul_toInt (w : Half) {c : ℕ} (hc : c ≤ 2000) :
    f64Mul (f64 w.toInt 32768) c = f64 (w.toInt * c) 32768 := by
  refine f64Mul_f64 (smallQuotient_toInt w (by norm_num) (by norm_num)) ?_
    (smallQuotient_toInt_mul w hc (by norm_num) (by norm_num))
  simpa using representable_toInt_mul_div w (c := 1) (by norm_num) 15

theorem gyro_eq (w : Half) : gyro w = f64 (w.toInt * (2000 : ℕ)) 32768 := f64Mul_toInt w le_rfl

theorem angle_eq (w : Half) : angle w = f64 (w.toInt * (180 : ℕ)) 32768 := f64Mul_toInt w (by norm_num)

/-- The scales with a factor are exact (42_unpack.md R99). -/
theorem f64Value_f64_toInt_mul (w : Half) {c : ℕ} (hc : c ≤ 2000) :
    f64Value (f64 (w.toInt * c) 32768) = (w.toInt : ℚ) * c / 32768 := by
  rw [(smallQuotient_toInt_mul w hc (by norm_num) (by norm_num)).exact]
  · push_cast
    rfl
  · exact representable_toInt_mul_div w hc 15

/-- What the acceleration divides by: the divisor, or twice it (42_unpack.md R98). -/
def accelDenominator (div : Half) (halve : Bool) : ℕ := if halve then 2 * div.toNat else div.toNat

section
variable {div : Half} (hdiv : div ≠ 0)
include hdiv

theorem divisor_bounds : 0 < div.toNat ∧ div.toNat < 2 ^ 16 :=
  ⟨Nat.pos_of_ne_zero fun h => hdiv (BitVec.eq_of_toNat_eq h), div.isLt⟩

theorem smallQuotient_accel (halve : Bool) (w : Half) :
    SmallQuotient w.toInt (accelDenominator div halve) := by
  obtain ⟨hpos, hlt⟩ := divisor_bounds hdiv
  cases halve with
  | false => exact smallQuotient_toInt w hpos (by change div.toNat ≤ _; omega)
  | true => exact smallQuotient_toInt w (Nat.mul_pos two_pos hpos) (by change 2 * div.toNat ≤ _; omega)

theorem accel_eq (halve : Bool) (w : Half) :
    accel div halve w = f64 w.toInt (accelDenominator div halve) := by
  cases halve with
  | false => rfl
  | true => exact f64Half_f64 (smallQuotient_accel hdiv false w)

/-- The three scale results are `f64` of small quotients whose numerators are 0 and negative as the raw word is. -/
theorem scale_eq_f64 {halve : Bool} {w : Half} {x : F64} (hx : x ∈ [accel div halve w, gyro w, angle w]) :
    ∃ c den, 0 < c ∧ SmallQuotient (w.toInt * (c : ℕ)) den ∧ x = f64 (w.toInt * (c : ℕ)) den := by
  simp only [List.mem_cons, List.not_mem_nil, or_false] at hx
  obtain rfl | rfl | rfl := hx
  · have hs := smallQuotient_accel hdiv halve w
    rw [← mul_one w.toInt] at hs
    exact ⟨1, _, one_pos, hs, by rw [accel_eq hdiv, Nat.cast_one, mul_one]⟩
  · exact ⟨2000, _, by norm_num, smallQuotient_toInt_mul w le_rfl (by norm_num) (by norm_num), gyro_eq w⟩
  · exact ⟨180, _, by norm_num, smallQuotient_toInt_mul w (by norm_num) (by norm_num) (by norm_num), angle_eq w⟩

end

/-! ### The obligations -/

/-- Settles O44: each scale is one exact rounding of its quotient. -/
theorem gyroAndAngleAreExact : Obligations.GyroAndAngleAreExact := by
  intro w
  rw [gyro_eq, angle_eq, f64Value_f64_toInt_mul w le_rfl, f64Value_f64_toInt_mul w (by norm_num)]
  push_cast
  constructor <;> ring

/-- Settles O45: the quotient is small, so it rounds without a tie, and every binary64 value is representable. -/
theorem accelIsTheNearestBinary64 : Obligations.AccelIsTheNearestBinary64 := by
  intro div w y hdiv _ hne
  rw [accel_eq hdiv] at hne ⊢
  exact (smallQuotient_accel hdiv false w).nearest (representable_f64Value y) hne

/-- Settles O46: the value of a halved result is half the value, and so is the quotient. -/
theorem halvingIsExact : Obligations.HalvingIsExact := by
  intro div w hdiv
  refine ⟨?_, accel_eq hdiv true w⟩
  rw [accel_eq hdiv, accel_eq hdiv]
  exact f64Value_f64_two_mul (smallQuotient_accel hdiv false w)

/-- Settles O47: a result is 0 exactly for the numerator 0, and else normal with its sign. -/
theorem scaleResultsAreOrdinary : Obligations.ScaleResultsAreOrdinary := by
  intro div w halve hdiv x hx
  obtain ⟨c, den, hc, hs, rfl⟩ := scale_eq_f64 hdiv hx
  refine ⟨?_, fun hw => ?_⟩
  · rintro rfl
    have hzero : (0 : Half).toInt = 0 := rfl
    rw [hzero, zero_mul, f64_zero]
  · have hc' : (0 : ℤ) < c := by exact_mod_cast hc
    obtain ⟨hnormal, hsign⟩ := hs.normal (mul_ne_zero (toInt_ne_zero hw) hc'.ne')
    exact ⟨hnormal, hsign.trans (by rw [mul_neg_iff]; omega)⟩

/-- Settles O48: the exact scales are linear in the raw word, and the acceleration is monotone in it. -/
theorem scaleRanges : Obligations.ScaleRanges := by
  have hgyro (w : Half) := (gyroAndAngleAreExact w).1
  have hangle (w : Half) := (gyroAndAngleAreExact w).2
  have haccel (w : Half) : f64Value (accel 2048 false w) = w.toInt / 2048 := by
    rw [accel_eq (by decide)]
    refine (smallQuotient_accel (by decide) false w).exact ?_
    simpa [accelDenominator] using representable_toInt_mul_div w (c := 1) (by norm_num) 11
  have hmin : (0x8000 : Half).toInt = -32768 := by decide
  have hmax : (0x7FFF : Half).toInt = 32767 := by decide
  refine ⟨fun w => ?_, ?_, ?_, ?_, ?_, ?_, ?_, fun div w halve hdiv => ?_⟩
  · obtain ⟨hlo, hhi⟩ := toInt_bounds w
    have hlo' : (-32768 : ℚ) ≤ w.toInt := by exact_mod_cast hlo
    have hhi' : (w.toInt : ℚ) ≤ 32767 := by exact_mod_cast hhi
    rw [hgyro, hangle]
    refine ⟨?_, ?_, ?_, ?_⟩ <;> linarith
  · rw [hgyro, hmin]; norm_num
  · rw [hgyro, hmax]; norm_num
  · rw [hangle, hmin]; norm_num
  · rw [hangle, hmax]; norm_num
  · rw [haccel, hmin]; norm_num
  · rw [haccel, hmax]; norm_num
  · obtain ⟨hlo, hhi⟩ := toInt_bounds w
    have hs := smallQuotient_accel hdiv halve
    simp only [accel_eq hdiv]
    exact ⟨(hs _).mono (hs _) (hmin ▸ hlo), (hs _).mono (hs _) (hmax ▸ hhi)⟩

end Sys2Proof.Machine
end
